-- ==== Sys2Proof/Word.lean ====
section
/-! DEFINITION. The word types of the wire, the panel and the request port (spec 00 R7, R10). -/

namespace Sys2Proof

/-- One 8-bit unit, `u8` (R10). -/
abbrev Byte := BitVec 8

/-- One 16-bit unit, `u16` (R10): a coordinate on the panel side, a pixel unit. -/
abbrev Word16 := BitVec 16

/-- "16-bit value, 5-6-5 bit layout (R:bits 15-11, G:10-5, B:4-0)" (R7). -/
abbrev Color565 := BitVec 16

/-- "24-bit value, 8-8-8 layout, used only as an input format for conversion" (R7). -/
abbrev Color888 := BitVec 24

end Sys2Proof
end

