-- ==== Sys2Proof/Config.lean ====
section
/-! DEFINITION. The implementation parameters of spec 00 R8 as plain data (the record `Cfg`), the
conditions R8 and R166 put on them, the spec's default values, and the free values of R33 and R43. -/

namespace Sys2Proof

/-- An electrical level of a line (R11). -/
inductive Level where
  | low
  | high
deriving DecidableEq, Repr

/-- The thirteen wire commands of R91, by the spec's mnemonics. -/
inductive WireCmd where
  | swreset | slpout | gamset | dispoff | dispon | caset | paset | ramwr
  | madctl | pixset | frmctr | dfunctr | etmod
deriving DecidableEq, Repr

/-- The four orientation values of R176. -/
inductive Orientation where
  | portrait | landscape | portraitFlipped | landscapeFlipped
deriving DecidableEq, Repr

/-- The parameters the source leaves open (R8). `invalidBuses` is the predicate `Cfg.BusValid` as
plain data (log 3). `busClockHz` and `busDataBits` are read by no rule (R260). -/
structure Cfg where
  opcSwreset : Byte
  opcSlpout : Byte
  opcGamset : Byte
  opcDispoff : Byte
  opcDispon : Byte
  opcCaset : Byte
  opcPaset : Byte
  opcRamwr : Byte
  opcMadctl : Byte
  opcPixset : Byte
  opcFrmctr : Byte
  opcDfunctr : Byte
  opcEtmod : Byte
  dcCmdLevel : Level
  dcDataLevel : Level
  blOnLevel : Level
  orientPortrait : Byte
  orientLandscape : Byte
  orientPortraitFlipped : Byte
  orientLandscapeFlipped : Byte
  payPixset : List Byte
  payFrmctr : List Byte
  payGamset : List Byte
  payCasetDefault : List Byte
  payPasetDefault : List Byte
  payEtmod : List Byte
  payDfunctr : List Byte
  tRstLow : Nat
  tSwreset : Nat
  tSlpout : Nat
  tDispon : Nat
  busClockHz : Nat
  busDataBits : Nat
  clearColor : Color565
  invalidBuses : List Nat
deriving DecidableEq, Repr

/-- The thirteen opcode bytes in the order of `WireCmd`. -/
def Cfg.opcodes (c : Cfg) : List Byte :=
  [c.opcSwreset, c.opcSlpout, c.opcGamset, c.opcDispoff, c.opcDispon, c.opcCaset, c.opcPaset,
   c.opcRamwr, c.opcMadctl, c.opcPixset, c.opcFrmctr, c.opcDfunctr, c.opcEtmod]

/-- What R8, R92, R160, R161 and R166 ask of the parameters: thirteen pairwise distinct opcodes, two
distinct mode-select levels, non-empty payloads, default address payloads of exactly four bytes,
and each delay at least its bound. -/
abbrev Cfg.wf (c : Cfg) : Prop :=
  c.opcodes.Nodup ∧ c.dcCmdLevel ≠ c.dcDataLevel ∧
  (c.payPixset ≠ [] ∧ c.payFrmctr ≠ [] ∧ c.payGamset ≠ [] ∧ c.payEtmod ≠ [] ∧ c.payDfunctr ≠ []) ∧
  (c.payCasetDefault.length = 4 ∧ c.payPasetDefault.length = 4) ∧
  (10 ≤ c.tRstLow ∧ 10 ≤ c.tSwreset ∧ 120 ≤ c.tSlpout ∧ 100 ≤ c.tDispon)

/-- The defaults of the spec: D4, D5, D14, D16, D19, and for the values D15, D18 and D30 leave
without a default the candidates of 93 G3 to G5 and zero. PRESUMED (the spec's general knowledge);
unsafe for a claim about `State.reset` that rests on one of them; log 1. -/
def Cfg.default : Cfg where
  opcSwreset := 0x01
  opcSlpout := 0x11
  opcGamset := 0x26
  opcDispoff := 0x28
  opcDispon := 0x29
  opcCaset := 0x2A
  opcPaset := 0x2B
  opcRamwr := 0x2C
  opcMadctl := 0x36
  opcPixset := 0x3A
  opcFrmctr := 0xB1
  opcDfunctr := 0xB6
  opcEtmod := 0xB7
  dcCmdLevel := .low
  dcDataLevel := .high
  blOnLevel := .high
  orientPortrait := 0x48
  orientLandscape := 0x28
  orientPortraitFlipped := 0x88
  orientLandscapeFlipped := 0xE8
  payPixset := [0x55]
  payFrmctr := [0x00, 0x1B]
  payGamset := [0x01]
  payCasetDefault := [0x00, 0x00, 0x00, 0xEF]
  payPasetDefault := [0x00, 0x00, 0x01, 0x3F]
  payEtmod := [0x07]
  payDfunctr := [0x0A, 0x82, 0x27, 0x00]
  tRstLow := 10
  tSwreset := 10
  tSlpout := 120
  tDispon := 100
  busClockHz := 0
  busDataBits := 0
  clearColor := 0x0000
  invalidBuses := []

/-- Free 16-bit value number `k` at event index `n` (R33, R34, R38, R43): nothing constrains it.
DESIGN CHOICE, safe; log 7 and log 8. -/
opaque Config.freeWord (n k : Nat) : Word16

/-- Free byte (R39, R43). DESIGN CHOICE, safe; log 7 and log 8. -/
opaque Config.freeByte (n k : Nat) : Byte

/-- Free byte list (R40, R43). DESIGN CHOICE, safe; log 7 and log 8. -/
opaque Config.freeBytes (n k : Nat) : List Byte

/-- Free bit (R43). DESIGN CHOICE, safe; log 8. -/
opaque Config.freeBit (n k : Nat) : Bool

/-- Free "none or one byte" (R43, for P.cmd and P.half). DESIGN CHOICE, safe; log 8. -/
opaque Config.freeOptByte (n k : Nat) : Option Byte

/-- Free finite map (R43, for P.other). DESIGN CHOICE, safe; log 8. -/
opaque Config.freeMap (n : Nat) : List (Byte × List Byte)

end Sys2Proof
end

