-- ==== Sys2Proof/Syntax.lean ====
section
/-! DEFINITION. The operations of the hardware as syntax: one constructor of `Instr` per row of
spec/opcode_table.json, the wire events of spec 20 R62, and the host's moves (spec 60 R245). -/

namespace Sys2Proof

/-- The three lines the engine drives: mode-select, reset, backlight (R11). -/
inductive Line where
  | dc | rst | bl
deriving DecidableEq, Repr

/-- The bus transfer width, "8 vs 16 bits per transfer unit" (R7, R27). -/
inductive BusWidth where
  | w8 | w16
deriving DecidableEq, Repr

/-- What one bus write carries (R14, R130): a batch of 8-bit or of 16-bit units. -/
inductive Batch where
  | bytes (l : List Byte)
  | words (l : List Word16)
deriving DecidableEq, Repr

/-- The five event kinds of the wire trace (R11, R62). -/
inductive Event where
  | pin (line : Line) (level : Level)
  | busWidth (w : BusWidth)
  | write8 (l : List Byte)
  | write16 (l : List Word16)
  | delay (ms : Nat)
deriving DecidableEq, Repr

/-- A glyph (R65, R210). -/
structure Glyph where
  width : Int
  height : Int
  spacing : Int
  bitmap : List Byte
deriving DecidableEq, Repr

/-- A font (R65, R211): "default inter-word space width", read by no rule, and the lookup, partial by
D28, as a list of entries of which the first for a character counts. -/
structure Font where
  space : Int
  glyphs : List (Char × Glyph)
deriving DecidableEq, Repr

/-- The side-band construction tokens (R30, R102, R155). `bus = none` is the source's "missing" bus
identifier (R226; log 3). -/
structure Tokens where
  bus : Option Nat
  dcPin : Nat
  rstPin : Nat
  blPin : Nat
deriving DecidableEq, Repr

/-- The rows of spec/opcode_table.json. Request operands `a0` to `a3` stay the 16 bits of their field
(R100); their value is `BitVec.toInt` (R101). -/
inductive Instr where
  -- WIRE (R90, R91): one command frame
  | swreset
  | slpout
  | gamset (payload : List Byte)
  | dispoff
  | dispon
  | caset (left right : Word16)
  | paset (top bottom : Word16)
  | ramwr
  | madctl (orientByte : Byte)
  | pixset (payload : List Byte)
  | frmctr (payload : List Byte)
  | dfunctr (payload : List Byte)
  | etmod (payload : List Byte)
  -- REQ (R100 to R102): one 96-bit request word
  | construct (o : Orientation)
  | setOrientation (o : Orientation)
  | setBacklight (on : Bool)
  | toColor565 (c : Color888)
  | drawPixel565 (x y : Word16) (c : Color565)
  | drawPixel888 (x y : Word16) (c : Color888)
  | fillRect (left right top bottom : Word16) (c : Color565)
  | drawCircle565 (x0 y0 radius : Word16) (c : Color565)
  | drawCircle888 (x0 y0 radius : Word16) (c : Color888)
  | flush (x y width height : Word16)
  | clearScreen
  | fillScreen (c : Color565)
  -- PROC (R108): procedures, no encoding
  | sendCommand (opcode : Byte)
  | sendData8 (l : List Byte)
  | sendData16 (l : List Word16)
  | setBusWidth (w : BusWidth)
  | busWrite (ev : Batch)
  | setWindow (left right top bottom : Int)
  | orient (o : Orientation)
  -- EXT (R210 to R217): text layout, no encoding; the Font operand is the font table `State.font`
  | drawChar (x y : Int) (fg bg : Color565) (g : Glyph)
  | drawString (x y : Int) (text : List Char) (fg bg : Color565)
deriving DecidableEq, Repr

/-- The four formats of R109. -/
inductive Format where
  | wire | req | proc | ext
deriving DecidableEq, Repr

/-- The format of each row (R109). -/
def Instr.format : Instr → Format
  | .swreset => .wire
  | .slpout => .wire
  | .gamset _ => .wire
  | .dispoff => .wire
  | .dispon => .wire
  | .caset _ _ => .wire
  | .paset _ _ => .wire
  | .ramwr => .wire
  | .madctl _ => .wire
  | .pixset _ => .wire
  | .frmctr _ => .wire
  | .dfunctr _ => .wire
  | .etmod _ => .wire
  | .construct _ => .req
  | .setOrientation _ => .req
  | .setBacklight _ => .req
  | .toColor565 _ => .req
  | .drawPixel565 _ _ _ => .req
  | .drawPixel888 _ _ _ => .req
  | .fillRect _ _ _ _ _ => .req
  | .drawCircle565 _ _ _ _ => .req
  | .drawCircle888 _ _ _ _ => .req
  | .flush _ _ _ _ => .req
  | .clearScreen => .req
  | .fillScreen _ => .req
  | .sendCommand _ => .proc
  | .sendData8 _ => .proc
  | .sendData16 _ => .proc
  | .setBusWidth _ => .proc
  | .busWrite _ => .proc
  | .setWindow _ _ _ _ => .proc
  | .orient _ => .proc
  | .drawChar _ _ _ _ _ => .ext
  | .drawString _ _ _ _ _ => .ext

/-- What an operation is presented as: a request word on the request port (R100), the bytes of one
wire frame, opcode first (R90), or a named call in the source's call syntax (R106), the only form
the PROC and EXT rows have (R108, R109). -/
inductive Presented where
  | request (w : BitVec 96)
  | frame (bytes : List Byte)
  | call (i : Instr)
deriving DecidableEq, Repr

/-- One move of the host (R245): present an operation, or supply one of the ports an operation reads. -/
inductive HostMove where
  | present (p : Presented)
  | supplyTokens (t : Tokens)
  | supplyBuf (l : List Color565)
  | supplyFont (f : Font)
deriving DecidableEq, Repr

end Sys2Proof
end

