-- ==== Sys2Proof/WellFormed.lean ====
section
/-! DEFINITION. Which instructions are well formed under a configuration: the five configuration
commands carry a payload of exactly the configured length (spec 30 R91, 41 R133). Every other
constructor's operands are well formed by their types. -/

namespace Sys2Proof

/-- The parameter-count condition of R91 and R133; true of every row whose operand types fix the
count. -/
def Instr.wf (cfg : Cfg) : Instr → Bool
  | .gamset p => p.length == cfg.payGamset.length
  | .pixset p => p.length == cfg.payPixset.length
  | .frmctr p => p.length == cfg.payFrmctr.length
  | .dfunctr p => p.length == cfg.payDfunctr.length
  | .etmod p => p.length == cfg.payEtmod.length
  | .swreset => true
  | .slpout => true
  | .dispoff => true
  | .dispon => true
  | .caset _ _ => true
  | .paset _ _ => true
  | .ramwr => true
  | .madctl _ => true
  | .construct _ => true
  | .setOrientation _ => true
  | .setBacklight _ => true
  | .toColor565 _ => true
  | .drawPixel565 _ _ _ => true
  | .drawPixel888 _ _ _ => true
  | .fillRect _ _ _ _ _ => true
  | .drawCircle565 _ _ _ _ => true
  | .drawCircle888 _ _ _ _ => true
  | .flush _ _ _ _ => true
  | .clearScreen => true
  | .fillScreen _ => true
  | .sendCommand _ => true
  | .sendData8 _ => true
  | .sendData16 _ => true
  | .setBusWidth _ => true
  | .busWrite _ => true
  | .setWindow _ _ _ _ => true
  | .orient _ => true
  | .drawChar _ _ _ _ _ => true
  | .drawString _ _ _ _ _ => true

end Sys2Proof
end

