-- ==== Sys2Proof/Decode.lean ====
section
/-! DEFINITION. The encodings of spec 30: the 96-bit request word and the wire frame, a decoder total
on any bits and bytes that rejects by name, and the encoder written from the same tables. The small
bit-field and byte-order helpers stand here too. -/

namespace Sys2Proof

/-! ## Helpers of R10 and R66 -/

/-- `hi8(v)` of a 16-bit value (R10). -/
def hi8 (v : Word16) : Byte := v.extractLsb' 8 8

/-- `lo8(v)` of a 16-bit value (R10). -/
def lo8 (v : Word16) : Byte := v.extractLsb' 0 8

/-- `be16(v) = [hi8(v), lo8(v)]` (R10, R66). -/
def be16 (v : Word16) : List Byte := [hi8 v, lo8 v]

/-- The panel's reassembly `256*b0 + b1` (R92). -/
def ofBe16 (b0 b1 : Byte) : Word16 := b0 ++ b1

/-- The request code of an orientation value (R176). -/
def Orientation.code : Orientation → BitVec 2
  | .portrait => 0
  | .landscape => 1
  | .portraitFlipped => 2
  | .landscapeFlipped => 3

/-- All four codes are legal (R177). -/
def Orientation.ofCode (c : BitVec 2) : Orientation :=
  if c = 0 then .portrait
  else if c = 1 then .landscape
  else if c = 2 then .portraitFlipped
  else .landscapeFlipped

/-! ## Wire opcodes (R91, R133) -/

/-- The opcode byte of a wire command (R91). -/
def Cfg.opcode (cfg : Cfg) : WireCmd → Byte
  | .swreset => cfg.opcSwreset
  | .slpout => cfg.opcSlpout
  | .gamset => cfg.opcGamset
  | .dispoff => cfg.opcDispoff
  | .dispon => cfg.opcDispon
  | .caset => cfg.opcCaset
  | .paset => cfg.opcPaset
  | .ramwr => cfg.opcRamwr
  | .madctl => cfg.opcMadctl
  | .pixset => cfg.opcPixset
  | .frmctr => cfg.opcFrmctr
  | .dfunctr => cfg.opcDfunctr
  | .etmod => cfg.opcEtmod

/-- The thirteen wire commands, in the order of spec/opcode_table.json. -/
def WireCmd.all : List WireCmd :=
  [.swreset, .slpout, .gamset, .dispoff, .dispon, .caset, .paset, .ramwr, .madctl, .pixset,
   .frmctr, .dfunctr, .etmod]

/-- The wire command an opcode byte names, none for an unlisted opcode (R91, R95). -/
def Cfg.command? (cfg : Cfg) (b : Byte) : Option WireCmd :=
  WireCmd.all.find? (fun c => cfg.opcode c == b)

/-- `expected(c)`, the parameter count of a wire command (R133). -/
def Cfg.expected (cfg : Cfg) : WireCmd → Nat
  | .caset => 4
  | .paset => 4
  | .madctl => 1
  | .pixset => cfg.payPixset.length
  | .frmctr => cfg.payFrmctr.length
  | .gamset => cfg.payGamset.length
  | .etmod => cfg.payEtmod.length
  | .dfunctr => cfg.payDfunctr.length
  | .swreset => 0
  | .slpout => 0
  | .dispoff => 0
  | .dispon => 0
  | .ramwr => 0

/-! ## Rejections -/

/-- Why a presented request word or frame names no instruction (R103, R104, R133). -/
inductive Reject where
  /-- R104: `op` in 0xA to 0xF. -/
  | reservedOp
  /-- R103: `rsv` is not zero. -/
  | reservedBits
  /-- R103: a field the operation does not use, or an unused upper bit of `a0`, is not zero. -/
  | unusedField
  /-- R104: `cfmt` has the value the operation does not take. -/
  | colourFormat
  /-- R101, R104: `cfmt = 0` with `color[23:16]` not zero. -/
  | highColour
  /-- A frame without an opcode byte. -/
  | emptyFrame
  /-- R95: an opcode outside the thirteen. -/
  | unlistedOpcode
  /-- R133: the wrong number of parameters. -/
  | parameterCount
deriving DecidableEq, Repr

/-! ## The request word (R100 to R104) -/

/-- The fields of the request word (R100). -/
structure ReqFields where
  op : BitVec 4
  cfmt : BitVec 1
  rsv : BitVec 3
  a0 : Word16
  a1 : Word16
  a2 : Word16
  a3 : Word16
  color : BitVec 24
deriving DecidableEq, Repr

/-- `{op, cfmt, rsv, a0, a1, a2, a3, color}`, most significant field first (R100). -/
def ReqFields.pack (f : ReqFields) : BitVec 96 :=
  f.op ++ f.cfmt ++ f.rsv ++ f.a0 ++ f.a1 ++ f.a2 ++ f.a3 ++ f.color

/-- `op = req[95:92]`, `cfmt = req[91]`, `rsv = req[90:88]`, `a0 = req[87:72]`, `a1 = req[71:56]`,
`a2 = req[55:40]`, `a3 = req[39:24]`, `color = req[23:0]` (R100). -/
def ReqFields.unpack (w : BitVec 96) : ReqFields where
  op := w.extractLsb' 92 4
  cfmt := w.extractLsb' 91 1
  rsv := w.extractLsb' 88 3
  a0 := w.extractLsb' 72 16
  a1 := w.extractLsb' 56 16
  a2 := w.extractLsb' 40 16
  a3 := w.extractLsb' 24 16
  color := w.extractLsb' 0 24

/-- The Color565 of a request with `cfmt = 0` (R101). -/
def ReqFields.c565 (f : ReqFields) : Color565 := f.color.extractLsb' 0 16

/-- CONSTRUCT and SET_ORIENTATION: the orientation code in `a0[1:0]`, all else zero (R102, R103). -/
def decodeOrientation (f : ReqFields) (mk : Orientation → Instr) : Except Reject Instr :=
  if f.cfmt ≠ 0 then .error .colourFormat
  else if f.a0.extractLsb' 2 14 ≠ 0 ∨ f.a1 ≠ 0 ∨ f.a2 ≠ 0 ∨ f.a3 ≠ 0 ∨ f.color ≠ 0 then
    .error .unusedField
  else .ok (mk (Orientation.ofCode (f.a0.extractLsb' 0 2)))

/-- SET_BACKLIGHT: `a0[0]`, all else zero (R102, R103). -/
def decodeBacklight (f : ReqFields) : Except Reject Instr :=
  if f.cfmt ≠ 0 then .error .colourFormat
  else if f.a0.extractLsb' 1 15 ≠ 0 ∨ f.a1 ≠ 0 ∨ f.a2 ≠ 0 ∨ f.a3 ≠ 0 ∨ f.color ≠ 0 then
    .error .unusedField
  else .ok (.setBacklight (f.a0.getLsbD 0))

/-- TO_COLOR565: `cfmt` must be 1 (R102, R104). -/
def decodeToColor565 (f : ReqFields) : Except Reject Instr :=
  if f.cfmt ≠ 1 then .error .colourFormat
  else if f.a0 ≠ 0 ∨ f.a1 ≠ 0 ∨ f.a2 ≠ 0 ∨ f.a3 ≠ 0 then .error .unusedField
  else .ok (.toColor565 f.color)

/-- DRAW_PIXEL: `a0 = x`, `a1 = y`, tagged colour, two rows (R102, R103). -/
def decodeDrawPixel (f : ReqFields) : Except Reject Instr :=
  if f.a2 ≠ 0 ∨ f.a3 ≠ 0 then .error .unusedField
  else if f.cfmt = 1 then .ok (.drawPixel888 f.a0 f.a1 f.color)
  else if f.color.extractLsb' 16 8 ≠ 0 then .error .highColour
  else .ok (.drawPixel565 f.a0 f.a1 f.c565)

/-- FILL_RECT: `left, right, top, bottom`, Color565 only (R102). -/
def decodeFillRect (f : ReqFields) : Except Reject Instr :=
  if f.cfmt ≠ 0 then .error .colourFormat
  else if f.color.extractLsb' 16 8 ≠ 0 then .error .highColour
  else .ok (.fillRect f.a0 f.a1 f.a2 f.a3 f.c565)

/-- DRAW_CIRCLE: `a0 = x0`, `a1 = y0`, `a2 = radius`, tagged colour, two rows (R102, R103). -/
def decodeDrawCircle (f : ReqFields) : Except Reject Instr :=
  if f.a3 ≠ 0 then .error .unusedField
  else if f.cfmt = 1 then .ok (.drawCircle888 f.a0 f.a1 f.a2 f.color)
  else if f.color.extractLsb' 16 8 ≠ 0 then .error .highColour
  else .ok (.drawCircle565 f.a0 f.a1 f.a2 f.c565)

/-- FLUSH: `x, y, width, height`, `color` must be 0 (R102). -/
def decodeFlush (f : ReqFields) : Except Reject Instr :=
  if f.cfmt ≠ 0 then .error .colourFormat
  else if f.color ≠ 0 then .error .unusedField
  else .ok (.flush f.a0 f.a1 f.a2 f.a3)

/-- CLEAR_SCREEN: no operand (R102). -/
def decodeClearScreen (f : ReqFields) : Except Reject Instr :=
  if f.cfmt ≠ 0 then .error .colourFormat
  else if f.a0 ≠ 0 ∨ f.a1 ≠ 0 ∨ f.a2 ≠ 0 ∨ f.a3 ≠ 0 ∨ f.color ≠ 0 then .error .unusedField
  else .ok .clearScreen

/-- FILL_SCREEN: Color565 only (R102). -/
def decodeFillScreen (f : ReqFields) : Except Reject Instr :=
  if f.cfmt ≠ 0 then .error .colourFormat
  else if f.a0 ≠ 0 ∨ f.a1 ≠ 0 ∨ f.a2 ≠ 0 ∨ f.a3 ≠ 0 then .error .unusedField
  else if f.color.extractLsb' 16 8 ≠ 0 then .error .highColour
  else .ok (.fillScreen f.c565)

/-- Decoding by fields (R102 to R104). -/
def decodeFields (f : ReqFields) : Except Reject Instr :=
  if f.rsv ≠ 0 then .error .reservedBits
  else if f.op = 0x0 then decodeOrientation f .construct
  else if f.op = 0x1 then decodeOrientation f .setOrientation
  else if f.op = 0x2 then decodeBacklight f
  else if f.op = 0x3 then decodeToColor565 f
  else if f.op = 0x4 then decodeDrawPixel f
  else if f.op = 0x5 then decodeFillRect f
  else if f.op = 0x6 then decodeDrawCircle f
  else if f.op = 0x7 then decodeFlush f
  else if f.op = 0x8 then decodeClearScreen f
  else if f.op = 0x9 then decodeFillScreen f
  else .error .reservedOp

/-- The request decoder, total on all 96-bit words. -/
def decodeRequest (w : BitVec 96) : Except Reject Instr :=
  decodeFields (ReqFields.unpack w)

/-! ## The rows of spec/opcode_table.json (R103) -/

/-- The mnemonic of each row. -/
def Instr.mnemonic : Instr → String
  | .swreset => "SWRESET"
  | .slpout => "SLPOUT"
  | .gamset _ => "GAMSET"
  | .dispoff => "DISPOFF"
  | .dispon => "DISPON"
  | .caset _ _ => "CASET"
  | .paset _ _ => "PASET"
  | .ramwr => "RAMWR"
  | .madctl _ => "MADCTL"
  | .pixset _ => "PIXSET"
  | .frmctr _ => "FRMCTR"
  | .dfunctr _ => "DFUNCTR"
  | .etmod _ => "ETMOD"
  | .construct _ => "CONSTRUCT"
  | .setOrientation _ => "SET_ORIENTATION"
  | .setBacklight _ => "SET_BACKLIGHT"
  | .toColor565 _ => "TO_COLOR565"
  | .drawPixel565 _ _ _ => "DRAW_PIXEL_565"
  | .drawPixel888 _ _ _ => "DRAW_PIXEL_888"
  | .fillRect _ _ _ _ _ => "FILL_RECT"
  | .drawCircle565 _ _ _ _ => "DRAW_CIRCLE_565"
  | .drawCircle888 _ _ _ _ => "DRAW_CIRCLE_888"
  | .flush _ _ _ _ => "FLUSH"
  | .clearScreen => "CLEAR_SCREEN"
  | .fillScreen _ => "FILL_SCREEN"
  | .sendCommand _ => "sendCommand"
  | .sendData8 _ => "sendData8"
  | .sendData16 _ => "sendData16"
  | .setBusWidth _ => "setBusWidth"
  | .busWrite _ => "busWrite"
  | .setWindow _ _ _ _ => "setWindow"
  | .orient _ => "orient"
  | .drawChar _ _ _ _ _ => "drawChar"
  | .drawString _ _ _ _ _ => "drawString"

/-- The mnemonic of each wire command (R91). -/
def WireCmd.mnemonic : WireCmd → String
  | .swreset => "SWRESET"
  | .slpout => "SLPOUT"
  | .gamset => "GAMSET"
  | .dispoff => "DISPOFF"
  | .dispon => "DISPON"
  | .caset => "CASET"
  | .paset => "PASET"
  | .ramwr => "RAMWR"
  | .madctl => "MADCTL"
  | .pixset => "PIXSET"
  | .frmctr => "FRMCTR"
  | .dfunctr => "DFUNCTR"
  | .etmod => "ETMOD"

/-- A REQ row: the bits `mask` selects have the values of `pat` (R103). -/
structure TableRow where
  mnemonic : String
  pat : BitVec 96
  mask : BitVec 96
deriving DecidableEq, Repr

/-- The twelve REQ rows, with the `match` and `mask` of the table. -/
def requestRows : List TableRow :=
  [⟨"CONSTRUCT", 0x000000000000000000000000, 0xFFFFFCFFFFFFFFFFFFFFFFFF⟩,
   ⟨"SET_ORIENTATION", 0x100000000000000000000000, 0xFFFFFCFFFFFFFFFFFFFFFFFF⟩,
   ⟨"SET_BACKLIGHT", 0x200000000000000000000000, 0xFFFFFEFFFFFFFFFFFFFFFFFF⟩,
   ⟨"TO_COLOR565", 0x380000000000000000000000, 0xFFFFFFFFFFFFFFFFFF000000⟩,
   ⟨"DRAW_PIXEL_565", 0x400000000000000000000000, 0xFF00000000FFFFFFFFFF0000⟩,
   ⟨"DRAW_PIXEL_888", 0x480000000000000000000000, 0xFF00000000FFFFFFFF000000⟩,
   ⟨"FILL_RECT", 0x500000000000000000000000, 0xFF0000000000000000FF0000⟩,
   ⟨"DRAW_CIRCLE_565", 0x600000000000000000000000, 0xFF000000000000FFFFFF0000⟩,
   ⟨"DRAW_CIRCLE_888", 0x680000000000000000000000, 0xFF000000000000FFFF000000⟩,
   ⟨"FLUSH", 0x700000000000000000000000, 0xFF0000000000000000FFFFFF⟩,
   ⟨"CLEAR_SCREEN", 0x800000000000000000000000, 0xFFFFFFFFFFFFFFFFFFFFFFFF⟩,
   ⟨"FILL_SCREEN", 0x900000000000000000000000, 0xFFFFFFFFFFFFFFFFFFFF0000⟩]

/-! ## The wire frame (R90 to R94) -/

/-- The instruction of a frame whose opcode is listed and whose parameter count is right (R92, R94,
R133). -/
def decodeParams (cfg : Cfg) : WireCmd → List Byte → Except Reject Instr
  | .swreset, [] => .ok .swreset
  | .slpout, [] => .ok .slpout
  | .dispoff, [] => .ok .dispoff
  | .dispon, [] => .ok .dispon
  | .ramwr, [] => .ok .ramwr
  | .caset, [b0, b1, b2, b3] => .ok (.caset (ofBe16 b0 b1) (ofBe16 b2 b3))
  | .paset, [b0, b1, b2, b3] => .ok (.paset (ofBe16 b0 b1) (ofBe16 b2 b3))
  | .madctl, [b] => .ok (.madctl b)
  | .gamset, l => if l.length = cfg.payGamset.length then .ok (.gamset l) else .error .parameterCount
  | .pixset, l => if l.length = cfg.payPixset.length then .ok (.pixset l) else .error .parameterCount
  | .frmctr, l => if l.length = cfg.payFrmctr.length then .ok (.frmctr l) else .error .parameterCount
  | .dfunctr, l => if l.length = cfg.payDfunctr.length then .ok (.dfunctr l) else .error .parameterCount
  | .etmod, l => if l.length = cfg.payEtmod.length then .ok (.etmod l) else .error .parameterCount
  | .swreset, _ => .error .parameterCount
  | .slpout, _ => .error .parameterCount
  | .dispoff, _ => .error .parameterCount
  | .dispon, _ => .error .parameterCount
  | .ramwr, _ => .error .parameterCount
  | .caset, _ => .error .parameterCount
  | .paset, _ => .error .parameterCount
  | .madctl, _ => .error .parameterCount

/-- The frame decoder, total on all byte lists. -/
def decodeFrame (cfg : Cfg) : List Byte → Except Reject Instr
  | [] => .error .emptyFrame
  | b :: params =>
    match cfg.command? b with
    | none => .error .unlistedOpcode
    | some c => decodeParams cfg c params

/-- The instruction a presented operation stands for. A named call stands for itself (R106, R108). -/
def decode (cfg : Cfg) : Presented → Except Reject Instr
  | .request w => decodeRequest w
  | .frame bytes => decodeFrame cfg bytes
  | .call i => .ok i

/-- The host's question about one word of the opcode table. A row of one byte is a WIRE row (the
parameters the frame has beyond the opcode are zero bytes), a longer one a request word; the table's
bit 0 is bit 0 of the number (R100, R103). The configuration is the default one, whose opcodes the
table's WIRE rows carry (log 1, log 23). -/
def tableWord (cfg : Cfg) (nbits w : Nat) : Presented :=
  if nbits ≤ 8 then
    let b : Byte := BitVec.ofNat 8 w
    match cfg.command? b with
    | none => .frame [b]
    | some c => .frame (b :: List.replicate (cfg.expected c) 0)
  else .request (BitVec.ofNat 96 w)

/-- The instruction the decoder reads from a word of spec/opcode_table.json. -/
def decodeTableWord (nbits w : Nat) : Option Instr :=
  match decode Cfg.default (tableWord Cfg.default nbits w) with
  | .ok i => some i
  | .error _ => none

/-! ## The encoder -/

/-- The request word of an operation (R102), from its fields. -/
def reqWord (op : BitVec 4) (cfmt : BitVec 1) (a0 a1 a2 a3 : Word16) (color : BitVec 24) : BitVec 96 :=
  ReqFields.pack ⟨op, cfmt, 0, a0, a1, a2, a3, color⟩

/-- The encoding of every row: the request word of a REQ row, the frame bytes of a WIRE row, the call
itself for PROC and EXT rows, which have no encoding (R109). -/
def encode (cfg : Cfg) : Instr → Presented
  | .swreset => .frame [cfg.opcSwreset]
  | .slpout => .frame [cfg.opcSlpout]
  | .gamset p => .frame (cfg.opcGamset :: p)
  | .dispoff => .frame [cfg.opcDispoff]
  | .dispon => .frame [cfg.opcDispon]
  | .caset l r => .frame (cfg.opcCaset :: (be16 l ++ be16 r))
  | .paset t b => .frame (cfg.opcPaset :: (be16 t ++ be16 b))
  | .ramwr => .frame [cfg.opcRamwr]
  | .madctl b => .frame [cfg.opcMadctl, b]
  | .pixset p => .frame (cfg.opcPixset :: p)
  | .frmctr p => .frame (cfg.opcFrmctr :: p)
  | .dfunctr p => .frame (cfg.opcDfunctr :: p)
  | .etmod p => .frame (cfg.opcEtmod :: p)
  | .construct o => .request (reqWord 0x0 0 (o.code.setWidth 16) 0 0 0 0)
  | .setOrientation o => .request (reqWord 0x1 0 (o.code.setWidth 16) 0 0 0 0)
  | .setBacklight on => .request (reqWord 0x2 0 (if on then 1 else 0) 0 0 0 0)
  | .toColor565 c => .request (reqWord 0x3 1 0 0 0 0 c)
  | .drawPixel565 x y c => .request (reqWord 0x4 0 x y 0 0 (c.setWidth 24))
  | .drawPixel888 x y c => .request (reqWord 0x4 1 x y 0 0 c)
  | .fillRect l r t b c => .request (reqWord 0x5 0 l r t b (c.setWidth 24))
  | .drawCircle565 x y r c => .request (reqWord 0x6 0 x y r 0 (c.setWidth 24))
  | .drawCircle888 x y r c => .request (reqWord 0x6 1 x y r 0 c)
  | .flush x y w h => .request (reqWord 0x7 0 x y w h 0)
  | .clearScreen => .request (reqWord 0x8 0 0 0 0 0 0)
  | .fillScreen c => .request (reqWord 0x9 0 0 0 0 0 (c.setWidth 24))
  | .sendCommand b => .call (.sendCommand b)
  | .sendData8 l => .call (.sendData8 l)
  | .sendData16 l => .call (.sendData16 l)
  | .setBusWidth w => .call (.setBusWidth w)
  | .busWrite ev => .call (.busWrite ev)
  | .setWindow l r t b => .call (.setWindow l r t b)
  | .orient o => .call (.orient o)
  | .drawChar x y fg bg g => .call (.drawChar x y fg bg g)
  | .drawString x y text fg bg => .call (.drawString x y text fg bg)

end Sys2Proof
end

