-- ==== Sys2Proof/Machine/State.lean ====
section
/-! DEFINITION. The state of the machine (spec 10, 20, 60) as plain data, and the state after reset. -/

namespace Sys2Proof.Machine

/-- The phase of the initialisation state machine (R23): `Pk` "steps 1 to k have completed". -/
inductive Phase where
  | p0 | p1 | p2 | p3 | p4 | p5 | p6 | p7 | p8 | p9
  | failed
deriving DecidableEq, Repr

/-- What the engine has last driven on a line: nothing yet, or a level (R29). -/
inductive Drive where
  | undriven
  | driven (l : Level)
deriving DecidableEq, Repr

/-- A panel register the spec can call "unspecified" (R33, R34, R38 to R40): it always holds a value,
and `known` says whether the value is specified, which R149 tests. While `known` is false the value
is a free one (log 7). -/
structure Reg (α : Type) where
  val : α
  known : Bool
deriving DecidableEq, Repr

/-- A register holding a specified value. -/
def Reg.of {α : Type} (v : α) : Reg α := ⟨v, true⟩

/-- A register whose value the spec calls unspecified. -/
def Reg.unspecified {α : Type} (v : α) : Reg α := ⟨v, false⟩

/-- The panel receiver's registers and frame memory (R32 to R43, R61). While `undef` is set every
field but `undef` is to be read through `Panel.view`, which gives free values (R43; log 8). -/
structure Panel where
  /-- P.cmd (R32). -/
  cmd : Option Byte
  /-- P.par (R32). -/
  par : List Byte
  /-- P.SC (R33). -/
  sc : Reg Word16
  /-- P.EC (R33). -/
  ec : Reg Word16
  /-- P.SP (R34). -/
  sp : Reg Word16
  /-- P.EP (R34). -/
  ep : Reg Word16
  /-- P.armed (R36). -/
  armed : Bool
  /-- P.half (R37). -/
  half : Option Byte
  /-- P.cx (R38). -/
  cx : Reg Word16
  /-- P.cy (R38). -/
  cy : Reg Word16
  /-- P.madctl (R39). -/
  madctl : Reg Byte
  /-- P.pixfmt (R40, R134). -/
  pixfmt : Reg (List Byte)
  /-- P.sleeping (R41). -/
  sleeping : Bool
  /-- P.displayOn (R41). -/
  displayOn : Bool
  /-- P.other (R42): opcode and parameter list, one entry an opcode. -/
  other : List (Byte × List Byte)
  /-- P.undef, sticky (R43). -/
  undef : Bool
  /-- FM (R61): (pixel key, Color565), keys strictly rising; a pixel not listed is unspecified and
  has no value (log 4). -/
  fm : List (Nat × Color565)
deriving DecidableEq, Repr

/-- The construction parameters (R30): the tokens of the side-band port and the orientation. -/
structure Ctor where
  tokens : Tokens
  orient : Orientation
deriving DecidableEq, Repr

/-- The status codes of R105 and R225. -/
inductive Status where
  | ok | eConfig | eBus | eContract | eNotReady | eReserved
deriving DecidableEq, Repr

/-- The response word (R105). -/
structure Response where
  status : Status
  result : Word16
deriving DecidableEq, Repr

/-- The whole state: engine `S`, wire trace `T`, panel `P` with `FM`, the host's ports, and the
inputs the spec leaves free. -/
structure State where
  /-- The configuration record (R8), written by no step (log 1). -/
  cfg : Cfg
  /-- S.phase (R23). -/
  phase : Phase
  /-- S.width (R24). -/
  width : Nat
  /-- S.height (R24). -/
  height : Nat
  /-- S.orient (R25). -/
  orient : Orientation
  /-- S.backlightOn (R26). -/
  backlightOn : Bool
  /-- S.busWidth (R27). -/
  busWidth : BusWidth
  /-- S.busy, the driver-wide lock (R28, R238). -/
  busy : Bool
  /-- S.dc (R29). -/
  dc : Drive
  /-- S.rst (R29). -/
  rst : Drive
  /-- S.bl (R29). -/
  bl : Drive
  /-- S.ctor (R30). -/
  ctor : Ctor
  /-- S.xfer (R31). -/
  xfer : Nat
  /-- T, the wire trace (R62), oldest event first. -/
  trace : List Event
  /-- P and FM (R32 to R43, R61). -/
  panel : Panel
  /-- The side-band port of the construction tokens (R102, R155). -/
  ctorPort : Tokens
  /-- Buf, the host's pixel buffer (R64). -/
  buf : List Color565
  /-- The font table (R65, R211). -/
  font : Font
  /-- The response port (R105): the last response, none before the first (log 12). -/
  resp : Option Response
  /-- The host's coming moves, the next one first (R238, R245; log 11). -/
  port : List HostMove
  /-- The bus oracle (R229): the indices of the bus writes that fail (log 2). -/
  busFails : List Nat
deriving DecidableEq, Repr

/-- Faults: the spec has none. "There is no trap" (R72), every failure ends an operation with a
status (R225, R235), so no step of this machine answers a fault. -/
inductive Fault where
deriving DecidableEq, Repr

/-- Why an instruction has no next state. -/
inductive Refusal where
  /-- An instruction without a meaning; raised by no arm of `exec`. Safe. -/
  | notModelled (mnemonic : String)
  /-- A 16-bit batch while `S.busWidth = 8`: "a model that exposes the transport procedures directly
  must refuse it" (R69, R127, U11). Raised by `busWrite`. Safe (log 16). -/
  | wordTransferInByteMode
  /-- An 8-bit batch while `S.busWidth = 16` (R126, R264, U11). Raised by `busWrite`. Safe (log 16). -/
  | byteTransferInWordMode
deriving DecidableEq, Repr

/-- The panel of the reset table (R45): the fields it calls unspecified hold zero and are marked so.
DESIGN CHOICE, unsafe; log 7 and log 9. -/
def Panel.atPowerOn : Panel where
  cmd := none
  par := []
  sc := .unspecified 0
  ec := .unspecified 0
  sp := .unspecified 0
  ep := .unspecified 0
  armed := false
  half := none
  cx := .unspecified 0
  cy := .unspecified 0
  madctl := .unspecified 0
  pixfmt := .unspecified []
  sleeping := true
  displayOn := false
  other := []
  undef := false
  fm := []

/-- The machine right after power-on (R45, R255, R256). Width, height, orientation and the
construction parameters are unspecified there: DESIGN CHOICE, unsafe; log 5 and log 6. The ports and
the bus oracle are inputs: log 2, log 6 and log 11. -/
def State.reset : State where
  cfg := Cfg.default
  phase := .p0
  width := 0
  height := 0
  orient := .portrait
  backlightOn := false
  busWidth := .w8
  busy := false
  dc := .undriven
  rst := .undriven
  bl := .undriven
  ctor := ⟨⟨some 0, 0, 0, 0⟩, .portrait⟩
  xfer := 0
  trace := []
  panel := Panel.atPowerOn
  ctorPort := ⟨some 0, 0, 0, 0⟩
  buf := []
  font := ⟨0, []⟩
  resp := none
  port := []
  busFails := []

end Sys2Proof.Machine
end

