-- ==== Sys2Proof/Machine/Flags.lean ====
section
/-! DEFINITION. The one-bit conditions the spec computes (R44 lists the status bits; there are no
arithmetic condition codes) and the encoding of the status. -/

namespace Sys2Proof.Machine

/-- `status[3:0]` (R105, R225). -/
def Status.code : Status → BitVec 4
  | .ok => 0
  | .eConfig => 1
  | .eBus => 2
  | .eContract => 3
  | .eNotReady => 4
  | .eReserved => 5

/-- The response word as bits. R105 and D1 give the two fields, `status[3:0]` and `result[15:0]`, but no
places in one word: that the status lies above the result, in 20 bits, is a DESIGN CHOICE, safe; log 28. -/
def Response.word (r : Response) : BitVec 20 := r.status.code ++ r.result

/-- `BusOk(k)`, the bus oracle's answer for the `k`-th bus write (R229; log 2). -/
def State.busOk (s : State) (k : Nat) : Bool := !(s.busFails.contains k)

/-- `Cfg.BusValid` (R226): a missing identifier is invalid, and so is a listed one (log 3). -/
def busValid (cfg : Cfg) : Option Nat → Bool
  | none => false
  | some b => !(cfg.invalidBuses.contains b)

/-- The receiver's mode, set by the level of the mode-select line (R131). Before the first
`Pin(DC, _)` it is unknown. -/
inductive Mode where
  | unknown | command | data
deriving DecidableEq, Repr

/-- R131: command at `Cfg.DC_CMD_LEVEL`, data at `Cfg.DC_DATA_LEVEL`. -/
def lineMode (cfg : Cfg) : Drive → Mode
  | .undriven => .unknown
  | .driven l =>
    if l = cfg.dcCmdLevel then .command
    else if l = cfg.dcDataLevel then .data
    else .unknown

/-- The previous command's parameter list was left incomplete: `0 < len(P.par) < expected(P.cmd)`
(R132). A command without a count (none yet, or unlisted) leaves nothing incomplete. -/
def Panel.incomplete (cfg : Cfg) (p : Panel) : Bool :=
  match p.cmd.bind cfg.command? with
  | none => false
  | some c => decide (0 < p.par.length) && decide (p.par.length < cfg.expected c)

/-- `WindowOk()` (R149) under the logical size `w` by `h`: the four range registers and the pixel
format are specified, `P.SC <= P.EC < S.width`, `P.SP <= P.EP < S.height`, `P.pixfmt` is
`Cfg.PAY_PIXSET`. -/
def Panel.windowOk (cfg : Cfg) (w h : Nat) (p : Panel) : Bool :=
  p.sc.known && p.ec.known && p.sp.known && p.ep.known && p.pixfmt.known &&
  decide (p.sc.val.toNat ≤ p.ec.val.toNat) && decide (p.ec.val.toNat < w) &&
  decide (p.sp.val.toNat ≤ p.ep.val.toNat) && decide (p.ep.val.toNat < h) &&
  decide (p.pixfmt.val = cfg.payPixset)

/-- The three states of the window-address state machine (R144). -/
inductive WindowState where
  | idle | collecting | armed
deriving DecidableEq, Repr

/-- The state determined by `P.cmd`, `P.par` and `P.armed` (R144). -/
def Panel.windowState (cfg : Cfg) (p : Panel) : WindowState :=
  if p.armed then .armed
  else
    match p.cmd.bind cfg.command? with
    | none => .idle
    | some c => if p.par.length < cfg.expected c then .collecting else .idle

end Sys2Proof.Machine
end

