-- ==== Sys2Proof/Machine/Ops.lean ====
section
/-! DEFINITION. The named operations the meanings are made of: frame memory, the panel receiver
(spec 41 part 2, 42 part 2), emitting an event, a bus write, a bus failure, the lock, and running a
list of engine actions. -/

namespace Sys2Proof.Machine

/-! ## Frame memory (R61) -/

/-- The key of pixel `(x, y)`: row-major, a row being as long as a 16-bit coordinate reaches. -/
def pixelKey (x y : Nat) : Nat := y * 65536 + x

/-- The pixel stored under a key; an unlisted pixel is unspecified and has no value (log 4). -/
def Memory.read : List (Nat × Color565) → Nat → Option Color565
  | [], _ => none
  | (k', v) :: m, k => if k = k' then some v else Memory.read m k

/-- Store a pixel, keeping the keys strictly rising. -/
def Memory.write : List (Nat × Color565) → Nat → Color565 → List (Nat × Color565)
  | [], k, v => [(k, v)]
  | (k', v') :: m, k, v =>
    if k < k' then (k, v) :: (k', v') :: m
    else if k = k' then (k, v) :: m
    else (k', v') :: Memory.write m k v

/-- The canonical form: keys strictly rising (so no repeats). Every listed pixel has a value and an
unlisted one has none, so no entry equals what an unlisted pixel reads as. -/
abbrev Memory.wf (m : List (Nat × Color565)) : Prop := (m.map Prod.fst).Pairwise (· < ·)

/-! ## The map P.other (R42) -/

/-- `P.other[c] <- par`: replace the entry of `c`, or add one. -/
def otherPut : List (Byte × List Byte) → Byte → List Byte → List (Byte × List Byte)
  | [], c, v => [(c, v)]
  | (c', v') :: m, c, v => if c = c' then (c, v) :: m else (c', v') :: otherPut m c v

/-- `P.other[c]`. -/
def otherGet : List (Byte × List Byte) → Byte → Option (List Byte)
  | [], _ => none
  | (c', v) :: m, c => if c = c' then some v else otherGet m c

/-! ## The panel receiver (R131 to R137, R144 to R149) -/

/-- Panel reset (R137, R257): every field at its reset value, the unspecified ones at free values
drawn at event index `n` (log 7), every pixel unspecified. -/
def Panel.reset (n : Nat) : Panel where
  cmd := none
  par := []
  sc := .unspecified (Config.freeWord n 0)
  ec := .unspecified (Config.freeWord n 1)
  sp := .unspecified (Config.freeWord n 2)
  ep := .unspecified (Config.freeWord n 3)
  armed := false
  half := none
  cx := .unspecified (Config.freeWord n 4)
  cy := .unspecified (Config.freeWord n 5)
  madctl := .unspecified (Config.freeByte n 0)
  pixfmt := .unspecified (Config.freeBytes n 0)
  sleeping := true
  displayOn := false
  other := []
  undef := false
  fm := []

/-- A panel about which nothing is known but that `P.undef` is set: every other field a free value
of index `n`, no pixel with a value (R43; log 8). -/
def Panel.unknown (n : Nat) : Panel where
  cmd := Config.freeOptByte n 0
  par := Config.freeBytes n 1
  sc := .unspecified (Config.freeWord n 6)
  ec := .unspecified (Config.freeWord n 7)
  sp := .unspecified (Config.freeWord n 8)
  ep := .unspecified (Config.freeWord n 9)
  armed := Config.freeBit n 0
  half := Config.freeOptByte n 1
  cx := .unspecified (Config.freeWord n 10)
  cy := .unspecified (Config.freeWord n 11)
  madctl := .unspecified (Config.freeByte n 1)
  pixfmt := .unspecified (Config.freeBytes n 2)
  sleeping := Config.freeBit n 1
  displayOn := Config.freeBit n 2
  other := Config.freeMap n
  undef := true
  fm := []

/-- What may be said of the panel at event index `n`: its fields while `P.undef` is clear, nothing
once it is set (R43; log 8). -/
def Panel.view (n : Nat) (p : Panel) : Panel := if p.undef then Panel.unknown n else p

/-- `P`, as a claim may read it (R43). -/
def State.P (s : State) : Panel := s.panel.view s.trace.length

/-- `FM[x, y]`, as a claim may read it: none while the pixel is unspecified (R43, R61). -/
def State.pixel (s : State) (x y : Nat) : Option Color565 := Memory.read s.P.fm (pixelKey x y)

/-- R147: `P.armed` is set by the command byte, the cursor goes to `(P.SC, P.SP)`. -/
def Panel.setCursor (p : Panel) : Panel := { p with cx := p.sc, cy := p.sp }

/-- What every command byte does before its own effect (R132). -/
def Panel.beginCommand (cfg : Cfg) (b : Byte) (p : Panel) : Panel :=
  { p with
    undef := p.undef || p.incomplete cfg
    cmd := some b
    par := []
    half := none
    armed := b == cfg.opcRamwr }

/-- A byte received in command mode (R132; unlisted opcodes R95). -/
def Panel.commandByte (cfg : Cfg) (n : Nat) (p : Panel) (b : Byte) : Panel :=
  let p1 := p.beginCommand cfg b
  match cfg.command? b with
  | some .swreset => Panel.reset n
  | some .slpout => { p1 with sleeping := false }
  | some .dispoff => { p1 with displayOn := false }
  | some .dispon => { p1 with displayOn := true }
  | some .ramwr => p1.setCursor
  | some .caset => p1
  | some .paset => p1
  | some .madctl => p1
  | some .pixset => p1
  | some .frmctr => p1
  | some .gamset => p1
  | some .etmod => p1
  | some .dfunctr => p1
  | none => { p1 with undef := true }

/-- Coordinate number `i` of a parameter list, `256*P.par[2i] + P.par[2i+1]` (R145, R146). -/
def parCoord (par : List Byte) (i : Nat) : Word16 :=
  ofBe16 (par.getD (2 * i) 0) (par.getD (2 * i + 1) 0)

/-- The effect of a command whose last expected parameter byte has arrived (R134, R145, R146, R178). -/
def Panel.latch (p : Panel) (b : Byte) (par : List Byte) : WireCmd → Panel
  | .caset => { p with sc := .of (parCoord par 0), ec := .of (parCoord par 1) }
  | .paset => { p with sp := .of (parCoord par 0), ep := .of (parCoord par 1) }
  | .madctl => { p with madctl := .of (par.getD 0 0), fm := [] }
  | .pixset => { p with pixfmt := .of par }
  | .frmctr => { p with other := otherPut p.other b par }
  | .gamset => { p with other := otherPut p.other b par }
  | .etmod => { p with other := otherPut p.other b par }
  | .dfunctr => { p with other := otherPut p.other b par }
  | .swreset => p
  | .slpout => p
  | .dispoff => p
  | .dispon => p
  | .ramwr => p

/-- A byte received in data mode while the panel is not armed is a parameter (R134; of an unlisted
command R95). -/
def Panel.parameterByte (cfg : Cfg) (p : Panel) (b : Byte) : Panel :=
  let par := p.par ++ [b]
  let p1 := { p with par := par }
  match p.cmd with
  | none => { p1 with undef := true }
  | some c =>
    match cfg.command? c with
    | none => { p1 with other := otherPut p1.other c par }
    | some k =>
      if cfg.expected k < par.length then { p1 with undef := true }
      else if par.length = cfg.expected k then p1.latch c par k
      else p1

/-- The cursor after a pixel (R148). -/
def Panel.advance (p : Panel) : Panel :=
  if p.cx.val.toNat < p.ec.val.toNat then { p with cx := { p.cx with val := p.cx.val + 1 } }
  else if p.cy.val.toNat < p.ep.val.toNat then
    { p with cx := p.sc, cy := { p.cy with val := p.cy.val + 1 } }
  else { p with cx := p.sc, cy := p.sp }

/-- A pixel received while armed (R148, R149), under the logical size `w` by `h`. Once `P.undef` is
set nothing more is said. -/
def Panel.writePixel (cfg : Cfg) (w h : Nat) (p : Panel) (c : Color565) : Panel :=
  if p.undef then p
  else if p.windowOk cfg w h then
    Panel.advance { p with fm := Memory.write p.fm (pixelKey p.cx.val.toNat p.cy.val.toNat) c }
  else { p with undef := true }

/-- A byte received in data mode (R134 when not armed, R135 when armed). -/
def Panel.dataByte (cfg : Cfg) (w h : Nat) (p : Panel) (b : Byte) : Panel :=
  if p.armed then
    match p.half with
    | none => { p with half := some b }
    | some hi => Panel.writePixel cfg w h { p with half := none } (ofBe16 hi b)
  else p.parameterByte cfg b

/-- A 16-bit unit received in data mode (R135 when armed, R136 when not). -/
def Panel.dataWord (cfg : Cfg) (w h : Nat) (p : Panel) (c : Word16) : Panel :=
  if p.armed then
    match p.half with
    | none => p.writePixel cfg w h c
    | some _ => { p with undef := true }
  else { p with undef := true }

/-- Something this spec gives no meaning was received (R43). -/
def Panel.undefine (p : Panel) : Panel := { p with undef := true }

/-- One event of the trace as the panel receives it (R131): `dc` is the drive of the mode-select
line, `w` by `h` the logical size, `n` the event's index in the trace. -/
def Panel.receive (cfg : Cfg) (dc : Drive) (w h n : Nat) (e : Event) (p : Panel) : Panel :=
  match e with
  | .pin .rst .low => Panel.reset n
  | .pin .rst .high => p
  | .pin .dc _ => p
  | .pin .bl _ => p
  | .busWidth _ => p
  | .delay _ => p
  | .write8 l =>
    match lineMode cfg dc with
    | .unknown => p.undefine
    | .command => l.foldl (Panel.commandByte cfg n) p
    | .data => l.foldl (Panel.dataByte cfg w h) p
  | .write16 l =>
    match lineMode cfg dc with
    | .unknown => p.undefine
    | .command => l.foldl (fun q _ => q.undefine) p
    | .data => l.foldl (Panel.dataWord cfg w h) p

/-! ## The engine's primitives (R11, R125 to R130) -/

/-- The level a `Pin` event drives (R29). -/
def State.drive (s : State) : Event → State
  | .pin .dc l => { s with dc := .driven l }
  | .pin .rst l => { s with rst := .driven l }
  | .pin .bl l => { s with bl := .driven l }
  | .busWidth _ => s
  | .write8 _ => s
  | .write16 _ => s
  | .delay _ => s

/-- `emit e` (R11): append the event to the trace; the panel receives it in the same step (R75). -/
def emit (e : Event) (s : State) : State :=
  State.drive
    { s with
      trace := s.trace ++ [e]
      panel := s.panel.receive s.cfg s.dc s.width s.height s.trace.length e } e

/-- The transfer width a batch needs (R126, R127, R129). -/
def batchWidth : Batch → BusWidth
  | .bytes _ => .w8
  | .words _ => .w16

/-- The event of a batch (R62). -/
def batchEvent : Batch → Event
  | .bytes l => .write8 l
  | .words l => .write16 l

/-- The refusal of a batch at the wrong width (U11). -/
def batchRefusal : Batch → Refusal
  | .bytes _ => .byteTransferInWordMode
  | .words _ => .wordTransferInByteMode

/-- What a run of actions comes to: its end, a `BusFailure` (R230), or a transfer at the wrong width
(U11). -/
inductive Run where
  | done (s : State)
  | busFailure (s : State)
  | refused (r : Refusal)
deriving DecidableEq, Repr

/-- `busWrite(ev)` (R130), "the single point where a bus transfer is issued and may fail". -/
def busWriteRun (b : Batch) (s : State) : Run :=
  if s.busWidth = batchWidth b then
    if s.busOk s.xfer then .done (emit (batchEvent b) { s with xfer := s.xfer + 1 })
    else .busFailure { s with xfer := s.xfer + 1 }
  else .refused (batchRefusal b)

/-- The actions an operation is made of. All but `write` cannot fail (R229). -/
inductive Act where
  /-- `emit Pin(line, level)`. -/
  | pin (line : Line) (level : Level)
  /-- `setBusWidth(w)` (R128). -/
  | width (w : BusWidth)
  /-- `emit Delay(ms)`. -/
  | delay (ms : Nat)
  /-- `busWrite(ev)` (R130). -/
  | write (b : Batch)
  /-- The state writes of `orient(o)` (R175). -/
  | screen (o : Orientation)
  /-- `S.phase <- p` (R156 to R164). -/
  | phase (p : Phase)
deriving DecidableEq, Repr

/-- The logical width of an orientation (R175). -/
def screenWidth : Orientation → Nat
  | .portrait => 240
  | .portraitFlipped => 240
  | .landscape => 320
  | .landscapeFlipped => 320

/-- The logical height of an orientation (R175). -/
def screenHeight : Orientation → Nat
  | .portrait => 320
  | .portraitFlipped => 320
  | .landscape => 240
  | .landscapeFlipped => 240

/-- `setBusWidth(w)`: "emit BusWidth(w); S.busWidth <- w" (R128). -/
def setWidth (w : BusWidth) (s : State) : State := { emit (.busWidth w) s with busWidth := w }

/-- `(S.width, S.height)` and `S.orient` of an orientation (R175). -/
def setScreen (o : Orientation) (s : State) : State :=
  { s with width := screenWidth o, height := screenHeight o, orient := o }

/-- One action. -/
def runAct (a : Act) (s : State) : Run :=
  match a with
  | .pin line level => .done (emit (.pin line level) s)
  | .width w => .done (setWidth w s)
  | .delay ms => .done (emit (.delay ms) s)
  | .write b => busWriteRun b s
  | .screen o => .done (setScreen o s)
  | .phase p => .done { s with phase := p }

/-- A list of actions in order, up to its end or the first failure. -/
def runActs : List Act → State → Run
  | [], s => .done s
  | a :: rest, s =>
    match runAct a s with
    | .done s1 => runActs rest s1
    | .busFailure s1 => .busFailure s1
    | .refused r => .refused r

/-! ## Failure, lock, response (R105, R230, R231, R234, R236, R238) -/

/-- The response port, and the lock released (R105, R238). -/
def answer (st : Status) (result : Word16) (s : State) : State :=
  { s with busy := false, resp := some ⟨st, result⟩ }

/-- The width restoration of R231. -/
def restoreWidth (s : State) : State := if s.busWidth = .w16 then setWidth .w8 s else s

/-- `BusFailure` (R230, R231): the width is restored, the panel is marked undefined, the phase is
FAILED, the lock is released, the status is E_BUS. -/
def takeBusFailure (s : State) : State :=
  let s1 := restoreWidth s
  answer .eBus 0 { s1 with panel := s1.panel.undefine, phase := .failed }

/-- Run the actions of an operation that has been accepted, then answer with `st` (R238, R246). -/
def runAndAnswer (acts : List Act) (st : Status) (s : State) : Host.Outcome State Fault Refusal :=
  match runActs acts s with
  | .done t => .next (answer st 0 t)
  | .busFailure t => .next (takeBusFailure t)
  | .refused r => .refused r

/-- A public operation (R236, R238; the two common lines of 45): held at the port while the lock is
taken (log 18), refused with E_NOTREADY outside `P9`; else the lock is taken and the plan, a list of
actions and the status it ends with, is run. -/
def operation (plan : State → List Act × Status) (s : State) : Host.Outcome State Fault Refusal :=
  if s.busy then .next s
  else if s.phase = .p9 then
    runAndAnswer (plan s).1 (plan s).2 { s with busy := true }
  else .next (answer .eNotReady 0 s)

/-- A procedure run by a named call or as a wire frame (R108; log 13, log 14): no lock, no phase test,
no response of its own. -/
def procedure (acts : List Act) (s : State) : Host.Outcome State Fault Refusal :=
  match runActs acts s with
  | .done t => .next t
  | .busFailure t => .next (takeBusFailure t)
  | .refused r => .refused r

end Sys2Proof.Machine
end

