-- ==== Sys2Proof/Machine/Operands.lean ====
section
/-! DEFINITION. Every operand form of the spec: signed request operands (R101), coordinates on the
wire (R10, R92), the tagged colour (R101, R120), the orientation byte (R94), the points of a disc
(R192), the clamp and the rows of a blit (R194, R195), the pixels of a glyph (R210, R212). -/

namespace Sys2Proof.Machine

/-- The value of a request operand: `sext_16(field)` as an integer (R9, R101). -/
def operand (f : Word16) : Int := f.toInt

/-- The 16 bits a coordinate has on the wire: `v mod 65536` (R10, R141). -/
def wireCoord (v : Int) : Word16 := BitVec.ofInt 16 v

/-- `be16(a) ++ be16(b)`, the four parameter bytes of CASET and PASET (R92). -/
def coordParams (a b : Int) : List Byte := be16 (wireCoord a) ++ be16 (wireCoord b)

/-- `Cfg.ORIENT_BYTE[o]` (R94, R176). -/
def orientByte (cfg : Cfg) : Orientation → Byte
  | .portrait => cfg.orientPortrait
  | .landscape => cfg.orientLandscape
  | .portraitFlipped => cfg.orientPortraitFlipped
  | .landscapeFlipped => cfg.orientLandscapeFlipped

/-- `toColor565` (R120): `{c[23:19], c[15:10], c[7:3]}`. -/
def toColor565 (c : Color888) : Color565 :=
  c.extractLsb' 19 5 ++ c.extractLsb' 10 6 ++ c.extractLsb' 3 5

/-- The integers from `lo` to `hi`, ascending; none if `hi < lo`. -/
def intRange (lo hi : Int) : List Int :=
  (List.range (hi - lo + 1).toNat).map (fun (k : Nat) => lo + (k : Int))

/-- The points of the disc of `radius` about `(x0, y0)` in scan order: `dx` outer, `dy` inner, both
ascending, those with `dx*dx + dy*dy <= radius*radius` (R192). -/
def discPoints (x0 y0 radius : Int) : List (Int × Int) :=
  (intRange (-radius) radius).flatMap fun dx =>
    ((intRange (-radius) radius).filter fun dy =>
      decide (dx * dx + dy * dy ≤ radius * radius)).map fun dy => (x0 + dx, y0 + dy)

/-- The clamp of R195 on one axis: `min(size, screen - origin)`. -/
def clampSize (size screen origin : Int) : Int := min size (screen - origin)

/-- Row `j` of a blit: `Buf[j*stride + i]` for `i` from 0 to `w - 1` (R194; the stride is the unclamped
width, R195). The length test of R194 keeps every index inside the buffer. -/
def bufRow (buf : List Color565) (stride w j : Nat) : List Color565 :=
  (List.range w).map fun i => buf.getD (j * stride + i) 0

/-- The `h` rows of a blit, in order (R194). -/
def bufRows (buf : List Color565) (stride w h : Nat) : List (List Color565) :=
  (List.range h).map fun j => bufRow buf stride w j

/-- Pixel number `k` of a bitmap: bit `7 - (k mod 8)` of byte `k div 8` (R70, R210). -/
def bitmapPixel (bitmap : List Byte) (k : Nat) : Bool :=
  (bitmap.getD (k / 8) 0).getLsbD (7 - k % 8)

/-- The buffer of `drawChar`: `fg` for a set bit, `bg` for a clear one (R212). -/
def glyphPixels (fg bg : Color565) (g : Glyph) : List Color565 :=
  (List.range (g.width * g.height).toNat).map fun k => if bitmapPixel g.bitmap k then fg else bg

/-- `lookup(font, ch)`, none for an absent character (R211, D28). -/
def lookupGlyph (f : Font) (ch : Char) : Option Glyph :=
  (f.glyphs.find? fun e => e.1 == ch).map Prod.snd

end Sys2Proof.Machine
end

