-- ==== Sys2Proof/Machine/Transport.lean ====
section
/-! DEFINITION. CommandTransport and WindowAddressing, engine side (spec 41 R125 to R130, 42 R140), the
orientation procedure (44 R175), and the meanings of the PROC rows. -/

namespace Sys2Proof.Machine

/-- `sendCommand(opcode)` (R125). -/
def sendCommandActs (cfg : Cfg) (opcode : Byte) : List Act :=
  [.pin .dc cfg.dcCmdLevel, .write (.bytes [opcode])]

/-- `sendData8(bytes)` (R126). -/
def sendData8Acts (cfg : Cfg) (l : List Byte) : List Act :=
  [.pin .dc cfg.dcDataLevel, .write (.bytes l)]

/-- `sendData16(words)` (R127). -/
def sendData16Acts (cfg : Cfg) (l : List Word16) : List Act :=
  [.pin .dc cfg.dcDataLevel, .write (.words l)]

/-- `setWindow(left, right, top, bottom)` (R140, R141). -/
def setWindowActs (cfg : Cfg) (left right top bottom : Int) : List Act :=
  sendCommandActs cfg cfg.opcCaset ++ sendData8Acts cfg (coordParams left right) ++
  (sendCommandActs cfg cfg.opcPaset ++ sendData8Acts cfg (coordParams top bottom)) ++
  sendCommandActs cfg cfg.opcRamwr

/-- `orient(o)` (R175). -/
def orientActs (cfg : Cfg) (o : Orientation) : List Act :=
  .screen o :: (sendCommandActs cfg cfg.opcMadctl ++ sendData8Acts cfg [orientByte cfg o] ++
    setWindowActs cfg 0 ((screenWidth o : Int) - 1) 0 ((screenHeight o : Int) - 1))

/-- sendCommand (R125). -/
def execSendCommand (opcode : Byte) (s : State) : Host.Outcome State Fault Refusal :=
  procedure (sendCommandActs s.cfg opcode) s

/-- sendData8 (R126). -/
def execSendData8 (l : List Byte) (s : State) : Host.Outcome State Fault Refusal :=
  procedure (sendData8Acts s.cfg l) s

/-- sendData16 (R127): refused at bus width 8 (U11). -/
def execSendData16 (l : List Word16) (s : State) : Host.Outcome State Fault Refusal :=
  procedure (sendData16Acts s.cfg l) s

/-- setBusWidth (R128). -/
def execSetBusWidth (w : BusWidth) (s : State) : Host.Outcome State Fault Refusal :=
  procedure [.width w] s

/-- busWrite (R130). -/
def execBusWrite (ev : Batch) (s : State) : Host.Outcome State Fault Refusal :=
  procedure [.write ev] s

/-- setWindow (R140). -/
def execSetWindow (left right top bottom : Int) (s : State) : Host.Outcome State Fault Refusal :=
  procedure (setWindowActs s.cfg left right top bottom) s

/-- orient (R175). -/
def execOrient (o : Orientation) (s : State) : Host.Outcome State Fault Refusal :=
  procedure (orientActs s.cfg o) s

end Sys2Proof.Machine
end

