-- ==== Sys2Proof/Machine/Control.lean ====
section
/-! DEFINITION. The operations that set the device up: the colour encoder (spec 40), construction and
its nine-step initialisation sequence (43), orientation and backlight (44). -/

namespace Sys2Proof.Machine

/-- Step 1, the hardware reset pulse (R156). -/
def initStep1 (cfg : Cfg) : List Act :=
  [.pin .rst .low, .delay cfg.tRstLow, .pin .rst .high, .phase .p1]

/-- Step 2, software reset (R157). -/
def initStep2 (cfg : Cfg) : List Act :=
  sendCommandActs cfg cfg.opcSwreset ++ [.delay cfg.tSwreset, .phase .p2]

/-- Step 3, display off (R158). -/
def initStep3 (cfg : Cfg) : List Act :=
  sendCommandActs cfg cfg.opcDispoff ++ [.phase .p3]

/-- Step 4, orientation and full-screen window (R159). -/
def initStep4 (cfg : Cfg) (o : Orientation) : List Act :=
  orientActs cfg o ++ [.phase .p4]

/-- Step 5, pixel format (R160). -/
def initStep5 (cfg : Cfg) : List Act :=
  sendCommandActs cfg cfg.opcPixset ++ sendData8Acts cfg cfg.payPixset ++ [.phase .p5]

/-- Step 6, the register block, in the order the sentence lists it (R161, D17). -/
def initStep6 (cfg : Cfg) : List Act :=
  (sendCommandActs cfg cfg.opcFrmctr ++ sendData8Acts cfg cfg.payFrmctr) ++
  (sendCommandActs cfg cfg.opcGamset ++ sendData8Acts cfg cfg.payGamset) ++
  (sendCommandActs cfg cfg.opcCaset ++ sendData8Acts cfg cfg.payCasetDefault) ++
  (sendCommandActs cfg cfg.opcPaset ++ sendData8Acts cfg cfg.payPasetDefault) ++
  (sendCommandActs cfg cfg.opcEtmod ++ sendData8Acts cfg cfg.payEtmod) ++
  (sendCommandActs cfg cfg.opcDfunctr ++ sendData8Acts cfg cfg.payDfunctr) ++
  [.phase .p6]

/-- Step 7, sleep out (R162). -/
def initStep7 (cfg : Cfg) : List Act :=
  sendCommandActs cfg cfg.opcSlpout ++ [.delay cfg.tSlpout, .phase .p7]

/-- Step 8, display on (R163). -/
def initStep8 (cfg : Cfg) : List Act :=
  sendCommandActs cfg cfg.opcDispon ++ [.delay cfg.tDispon, .phase .p8]

/-- Step 9, arm memory-write mode (R164). -/
def initStep9 (cfg : Cfg) : List Act :=
  sendCommandActs cfg cfg.opcRamwr ++ [.phase .p9]

/-- The nine steps, "each exactly once", in order (R155, R165). -/
def initActs (cfg : Cfg) (o : Orientation) : List Act :=
  initStep1 cfg ++ initStep2 cfg ++ initStep3 cfg ++ initStep4 cfg o ++ initStep5 cfg ++
  initStep6 cfg ++ initStep7 cfg ++ initStep8 cfg ++ initStep9 cfg

/-- CONSTRUCT (R155, R167, R170, R226), with the tokens of the side-band port. -/
def execConstruct (o : Orientation) (s : State) : Host.Outcome State Fault Refusal :=
  if s.busy then .next s
  else if s.phase ≠ .p0 then .next (answer .eNotReady 0 s)
  else if busValid s.cfg s.ctorPort.bus then
    runAndAnswer (initActs s.cfg o) .ok { s with busy := true, ctor := ⟨s.ctorPort, o⟩ }
  else .next (answer .eConfig 0 s)

/-- SET_ORIENTATION (R177). -/
def execSetOrientation (o : Orientation) (s : State) : Host.Outcome State Fault Refusal :=
  operation (fun s => (orientActs s.cfg o, .ok)) s

/-- The level of the backlight line for on and off (R180). -/
def backlightLevel (cfg : Cfg) (on : Bool) : Level :=
  if on then cfg.blOnLevel
  else match cfg.blOnLevel with
    | .low => .high
    | .high => .low

/-- SET_BACKLIGHT (R180): no bus write, so no failure. -/
def execSetBacklight (on : Bool) (s : State) : Host.Outcome State Fault Refusal :=
  if s.busy then .next s
  else if s.phase = .p9 then
    .next (answer .ok 0 { emit (.pin .bl (backlightLevel s.cfg on)) s with backlightOn := on })
  else .next (answer .eNotReady 0 s)

/-- TO_COLOR565 (R120, R121): accepted in every phase, no event, the lock untouched. -/
def execToColor565 (c : Color888) (s : State) : Host.Outcome State Fault Refusal :=
  .next { s with resp := some ⟨.ok, toColor565 c⟩ }

end Sys2Proof.Machine
end

