-- ==== Sys2Proof/Machine/Render.lean ====
section
/-! DEFINITION. The rendering primitives (spec 45): DRAW_PIXEL, FILL_RECT, DRAW_CIRCLE, FLUSH,
FILL_SCREEN, CLEAR_SCREEN. -/

namespace Sys2Proof.Machine

/-- A window and the word batches that follow it inside the width bracket of R129. -/
def bracketActs (cfg : Cfg) (batches : List (List Color565)) : List Act :=
  [.width .w16] ++ batches.flatMap (sendData16Acts cfg) ++ [.width .w8]

/-- The five statements of DRAW_PIXEL before its return (R185). -/
def drawPixelActs (cfg : Cfg) (x y : Int) (c : Color565) : List Act :=
  setWindowActs cfg x x y y ++ bracketActs cfg [[c]]

/-- The word batches of a fill of `w` by `h` pixels: one batch if the count is even, else one batch a
row (R187, R190). -/
def fillBatches (w h : Nat) (c : Color565) : List (List Color565) :=
  if (w * h) % 2 = 0 then [List.replicate (w * h) c]
  else List.replicate h (List.replicate w c)

/-- The body of FILL_RECT (R187 to R190): the memory-write command is sent twice (R188). -/
def fillRectPlan (left right top bottom : Int) (c : Color565) (s : State) : List Act × Status :=
  let w := right - left + 1
  let h := bottom - top + 1
  if w ≤ 0 ∨ h ≤ 0 then ([], .eContract)
  else
    (setWindowActs s.cfg left right top bottom ++ sendCommandActs s.cfg s.cfg.opcRamwr ++
      bracketActs s.cfg (fillBatches w.toNat h.toNat c), .ok)

/-- The body of DRAW_CIRCLE: DRAW_PIXEL's statements for every point of the disc (R192). -/
def drawCircleActs (cfg : Cfg) (x0 y0 radius : Int) (c : Color565) : List Act :=
  (discPoints x0 y0 radius).flatMap fun p => drawPixelActs cfg p.1 p.2 c

/-- The word batches of a blit: all rows in one batch if the clamped count is even, else one batch a
row (R194). -/
def flushBatches (buf : List Color565) (stride w h : Nat) : List (List Color565) :=
  if (w * h) % 2 = 0 then [(bufRows buf stride w h).flatten] else bufRows buf stride w h

/-- The body of FLUSH (R194, R195, R197). -/
def flushPlan (x y width height : Int) (s : State) : List Act × Status :=
  if x < 0 ∨ y < 0 ∨ width ≤ 0 ∨ height ≤ 0 then ([], .ok)
  else
    let w := clampSize width s.width x
    let h := clampSize height s.height y
    if w ≤ 0 ∨ h ≤ 0 then ([], .ok)
    else if (s.buf.length : Int) < width * height then ([], .eContract)
    else
      (setWindowActs s.cfg x (x + w - 1) y (y + h - 1) ++
        bracketActs s.cfg (flushBatches s.buf width.toNat w.toNat h.toNat), .ok)

/-- The body of FILL_SCREEN: FILL_RECT over the full logical screen (R107, R198). -/
def fillScreenPlan (c : Color565) (s : State) : List Act × Status :=
  fillRectPlan 0 ((s.width : Int) - 1) 0 ((s.height : Int) - 1) c s

/-- DRAW_PIXEL with a Color565 (R185). -/
def execDrawPixel565 (x y : Word16) (c : Color565) (s : State) : Host.Outcome State Fault Refusal :=
  operation (fun s => (drawPixelActs s.cfg (operand x) (operand y) c, .ok)) s

/-- DRAW_PIXEL with a Color888, converted once before the operation runs (R101, R185). -/
def execDrawPixel888 (x y : Word16) (c : Color888) (s : State) : Host.Outcome State Fault Refusal :=
  operation (fun s => (drawPixelActs s.cfg (operand x) (operand y) (toColor565 c), .ok)) s

/-- FILL_RECT (R187). -/
def execFillRect (left right top bottom : Word16) (c : Color565) (s : State) :
    Host.Outcome State Fault Refusal :=
  operation (fillRectPlan (operand left) (operand right) (operand top) (operand bottom) c) s

/-- DRAW_CIRCLE with a Color565 (R192). -/
def execDrawCircle565 (x0 y0 radius : Word16) (c : Color565) (s : State) :
    Host.Outcome State Fault Refusal :=
  operation (fun s => (drawCircleActs s.cfg (operand x0) (operand y0) (operand radius) c, .ok)) s

/-- DRAW_CIRCLE with a Color888, converted once before the operation runs (R101, R192). -/
def execDrawCircle888 (x0 y0 radius : Word16) (c : Color888) (s : State) :
    Host.Outcome State Fault Refusal :=
  operation (fun s =>
    (drawCircleActs s.cfg (operand x0) (operand y0) (operand radius) (toColor565 c), .ok)) s

/-- FLUSH (R194). -/
def execFlush (x y width height : Word16) (s : State) : Host.Outcome State Fault Refusal :=
  operation (flushPlan (operand x) (operand y) (operand width) (operand height)) s

/-- CLEAR_SCREEN: FILL_SCREEN with `Cfg.CLEAR_COLOR` (R199). -/
def execClearScreen (s : State) : Host.Outcome State Fault Refusal :=
  operation (fun s => fillScreenPlan s.cfg.clearColor s) s

/-- FILL_SCREEN (R198). -/
def execFillScreen (c : Color565) (s : State) : Host.Outcome State Fault Refusal :=
  operation (fillScreenPlan c) s

end Sys2Proof.Machine
end

