-- ==== Sys2Proof/Machine/Text.lean ====
section
/-! DEFINITION. The text extension (spec 46): drawChar and drawString. -/

namespace Sys2Proof.Machine

/-- The body of drawChar (R212): E_CONTRACT for a glyph of non-positive size or too short a bitmap
(D29), else one word batch, whatever its parity. -/
def drawCharPlan (cfg : Cfg) (x y : Int) (fg bg : Color565) (g : Glyph) : List Act × Status :=
  if g.width < 1 ∨ g.height < 1 ∨ 8 * (g.bitmap.length : Int) < g.width * g.height then
    ([], .eContract)
  else
    (setWindowActs cfg x (x + g.width - 1) y (y + g.height - 1) ++
      bracketActs cfg [glyphPixels fg bg g], .ok)

/-- The loop of drawString from cursor `(curX, curY)` on (R214, R215): the actions of the characters
up to the end or the first one that fails, and the status. `width` is `S.width`. -/
def drawStringFrom (cfg : Cfg) (width : Int) (font : Font) (x : Int) (fg bg : Color565) :
    List Char → Int → Int → List Act × Status
  | [], _, _ => ([], .ok)
  | ch :: rest, curX, curY =>
    if ch = '\n' then
      match lookupGlyph font ch with
      | none => ([], .eContract)
      | some g => drawStringFrom cfg width font x fg bg rest curX (curY + g.height)
    else if ch = '\r' then drawStringFrom cfg width font x fg bg rest x curY
    else
      match lookupGlyph font ch with
      | none => ([], .eContract)
      | some g =>
        let curX1 := if curX + g.width > width then x else curX
        let curY1 := if curX + g.width > width then curY + g.height else curY
        match drawCharPlan cfg curX1 curY1 fg bg g with
        | (acts, .ok) =>
          let more := drawStringFrom cfg width font x fg bg rest (curX1 + g.width + g.spacing) curY1
          (acts ++ more.1, more.2)
        | (acts, st) => (acts, st)

/-- drawChar (R212), a procedure that answers with a status: no lock and no phase test (log 15). -/
def execDrawChar (x y : Int) (fg bg : Color565) (g : Glyph) (s : State) :
    Host.Outcome State Fault Refusal :=
  runAndAnswer (drawCharPlan s.cfg x y fg bg g).1 (drawCharPlan s.cfg x y fg bg g).2 s

/-- drawString (R214) over the font table `State.font` (log 21). -/
def execDrawString (x y : Int) (text : List Char) (fg bg : Color565) (s : State) :
    Host.Outcome State Fault Refusal :=
  operation (fun s => drawStringFrom s.cfg s.width s.font x fg bg text x y) s

end Sys2Proof.Machine
end

