-- ==== Sys2Proof/Machine/Wire.lean ====
section
/-! DEFINITION. The meanings of the WIRE rows: one command frame of spec 30 R90, sent through the
transport (41 R125, R126) and received by the panel (41 R131 to R137, 42 R145 to R147) in the same
step (log 13). -/

namespace Sys2Proof.Machine

/-- A wire command frame (R90): the opcode under the command level, then, if there are parameters,
the parameters under the data level. -/
def frameActs (cfg : Cfg) (opcode : Byte) (params : List Byte) : List Act :=
  sendCommandActs cfg opcode ++ (if params = [] then [] else sendData8Acts cfg params)

/-- Send one frame. -/
def sendFrame (opcode : Byte) (params : List Byte) (s : State) : Host.Outcome State Fault Refusal :=
  procedure (frameActs s.cfg opcode params) s

/-- Bytes that are no frame of a listed command with its parameter count are sent all the same (R95,
R132, R134; log 17); no byte sends nothing. -/
def sendRawFrame (bytes : List Byte) (s : State) : Host.Outcome State Fault Refusal :=
  match bytes with
  | [] => .next s
  | b :: params => sendFrame b params s

/-- SWRESET: the software-reset command (R132, R137, R157). -/
def execSwreset (s : State) : Host.Outcome State Fault Refusal :=
  sendFrame s.cfg.opcSwreset [] s

/-- SLPOUT: the sleep-out command (R132, R162). -/
def execSlpout (s : State) : Host.Outcome State Fault Refusal :=
  sendFrame s.cfg.opcSlpout [] s

/-- GAMSET: gamma curve selection (R134, R161). -/
def execGamset (payload : List Byte) (s : State) : Host.Outcome State Fault Refusal :=
  sendFrame s.cfg.opcGamset payload s

/-- DISPOFF: the display-off command (R132, R158). -/
def execDispoff (s : State) : Host.Outcome State Fault Refusal :=
  sendFrame s.cfg.opcDispoff [] s

/-- DISPON: the display-on command (R132, R163). -/
def execDispon (s : State) : Host.Outcome State Fault Refusal :=
  sendFrame s.cfg.opcDispon [] s

/-- CASET: the column-address-set command (R92, R145). -/
def execCaset (left right : Word16) (s : State) : Host.Outcome State Fault Refusal :=
  sendFrame s.cfg.opcCaset (be16 left ++ be16 right) s

/-- PASET: the page-address-set command (R92, R146). -/
def execPaset (top bottom : Word16) (s : State) : Host.Outcome State Fault Refusal :=
  sendFrame s.cfg.opcPaset (be16 top ++ be16 bottom) s

/-- RAMWR: the memory-write command (R147). -/
def execRamwr (s : State) : Host.Outcome State Fault Refusal :=
  sendFrame s.cfg.opcRamwr [] s

/-- MADCTL: the memory-access-control command (R94, R134, R178). -/
def execMadctl (b : Byte) (s : State) : Host.Outcome State Fault Refusal :=
  sendFrame s.cfg.opcMadctl [b] s

/-- PIXSET: the pixel-format command (R94, R134, R160). -/
def execPixset (payload : List Byte) (s : State) : Host.Outcome State Fault Refusal :=
  sendFrame s.cfg.opcPixset payload s

/-- FRMCTR: frame-rate control (R134, R161). -/
def execFrmctr (payload : List Byte) (s : State) : Host.Outcome State Fault Refusal :=
  sendFrame s.cfg.opcFrmctr payload s

/-- DFUNCTR: display-function control (R134, R161). -/
def execDfunctr (payload : List Byte) (s : State) : Host.Outcome State Fault Refusal :=
  sendFrame s.cfg.opcDfunctr payload s

/-- ETMOD: entry mode (R134, R161). -/
def execEtmod (payload : List Byte) (s : State) : Host.Outcome State Fault Refusal :=
  sendFrame s.cfg.opcEtmod payload s

end Sys2Proof.Machine
end

