-- ==== Sys2Proof/Machine/Dispatch.lean ====
section
/-! DEFINITION. The meaning of every instruction: one arm per row of spec/opcode_table.json. -/

namespace Sys2Proof.Machine

def exec (i : Instr) (s : State) : Host.Outcome State Fault Refusal :=
  match i with
  | .swreset => Sys2Proof.Machine.execSwreset s
  | .slpout => Sys2Proof.Machine.execSlpout s
  | .gamset payload => Sys2Proof.Machine.execGamset payload s
  | .dispoff => Sys2Proof.Machine.execDispoff s
  | .dispon => Sys2Proof.Machine.execDispon s
  | .caset left right => Sys2Proof.Machine.execCaset left right s
  | .paset top bottom => Sys2Proof.Machine.execPaset top bottom s
  | .ramwr => Sys2Proof.Machine.execRamwr s
  | .madctl b => Sys2Proof.Machine.execMadctl b s
  | .pixset payload => Sys2Proof.Machine.execPixset payload s
  | .frmctr payload => Sys2Proof.Machine.execFrmctr payload s
  | .dfunctr payload => Sys2Proof.Machine.execDfunctr payload s
  | .etmod payload => Sys2Proof.Machine.execEtmod payload s
  | .construct o => Sys2Proof.Machine.execConstruct o s
  | .setOrientation o => Sys2Proof.Machine.execSetOrientation o s
  | .setBacklight on => Sys2Proof.Machine.execSetBacklight on s
  | .toColor565 c => Sys2Proof.Machine.execToColor565 c s
  | .drawPixel565 x y c => Sys2Proof.Machine.execDrawPixel565 x y c s
  | .drawPixel888 x y c => Sys2Proof.Machine.execDrawPixel888 x y c s
  | .fillRect left right top bottom c => Sys2Proof.Machine.execFillRect left right top bottom c s
  | .drawCircle565 x0 y0 radius c => Sys2Proof.Machine.execDrawCircle565 x0 y0 radius c s
  | .drawCircle888 x0 y0 radius c => Sys2Proof.Machine.execDrawCircle888 x0 y0 radius c s
  | .flush x y width height => Sys2Proof.Machine.execFlush x y width height s
  | .clearScreen => Sys2Proof.Machine.execClearScreen s
  | .fillScreen c => Sys2Proof.Machine.execFillScreen c s
  | .sendCommand opcode => Sys2Proof.Machine.execSendCommand opcode s
  | .sendData8 l => Sys2Proof.Machine.execSendData8 l s
  | .sendData16 l => Sys2Proof.Machine.execSendData16 l s
  | .setBusWidth w => Sys2Proof.Machine.execSetBusWidth w s
  | .busWrite ev => Sys2Proof.Machine.execBusWrite ev s
  | .setWindow left right top bottom => Sys2Proof.Machine.execSetWindow left right top bottom s
  | .orient o => Sys2Proof.Machine.execOrient o s
  | .drawChar x y fg bg g => Sys2Proof.Machine.execDrawChar x y fg bg g s
  | .drawString x y text fg bg => Sys2Proof.Machine.execDrawString x y text fg bg s

end Sys2Proof.Machine
end

