-- ==== Sys2Proof/Machine/Fetch.lean ====
section
/-! DEFINITION. Accepting the host's next move (spec 60 R234, R238, R245): which instruction a step
runs, on which state, and what a step does that runs none. -/

namespace Sys2Proof.Machine

/-- What the port gives a step: an instruction to run on a state, or the outcome of a step that runs
no instruction. -/
inductive Fetched where
  | run (i : Instr) (s : State)
  | other (o : Host.Outcome State Fault Refusal)

/-- A presented operation that names no instruction: a reserved request word is answered with
E_RESERVED, no event and no other change (R104, R228); the bytes of a frame that no row describes go
over the wire all the same (R95; log 17). -/
def notARow (p : Presented) (s : State) : Host.Outcome State Fault Refusal :=
  match p with
  | .request _ => .next { s with resp := some ⟨.eReserved, 0⟩ }
  | .frame bytes => sendRawFrame bytes s
  | .call _ => .next s

/-- Accept a presented operation. -/
def accept (p : Presented) (s : State) : Fetched :=
  match decode s.cfg p with
  | .ok i => .run i s
  | .error _ => .other (notARow p s)

/-- The port of the machine: while the lock is taken a move is held (R76, R238; log 18); with no move
at the port nothing happens; else the next move is taken off the port. -/
def fetch (s : State) : Fetched :=
  if s.busy then .other (.next s)
  else
    match s.port with
    | [] => .other (.next s)
    | .present p :: rest => accept p { s with port := rest }
    | .supplyTokens t :: rest => .other (.next { s with port := rest, ctorPort := t })
    | .supplyBuf l :: rest => .other (.next { s with port := rest, buf := l })
    | .supplyFont f :: rest => .other (.next { s with port := rest, font := f })

/-- Put one presented operation in front of the host's moves and free the lock, so that the next step
accepts it. -/
def place (p : Presented) (s : State) : State :=
  { s with busy := false, port := .present p :: s.port }

end Sys2Proof.Machine
end

