-- ==== Sys2Proof/Machine/Step.lean ====
section
/-! DEFINITION. One step of the machine: the host's next move, executed to its end (spec 20 R75). -/

namespace Sys2Proof.Machine

/-- One step. -/
def step (s : State) : Host.Outcome State Fault Refusal :=
  match fetch s with
  | .run i t => exec i t
  | .other o => o

/-- `s` with the instruction of one word of spec/opcode_table.json presented next (log 11, log 23). -/
def State.withFetchWord (s : State) (nbits w : Nat) : State := place (tableWord s.cfg nbits w) s

end Sys2Proof.Machine
end

