-- ==== Sys2Proof/Safety.lean ====
section
/-! DEFINITION. What the spec calls a good final state (60 R246), and the terms claims are written in:
premises, frames, the traces of the spec written out as events, and the invariants. -/

namespace Sys2Proof.Machine

/-- "A final state is good when `S.phase = P9`, `P.undef = false` and the last status is not `E_BUS`"
(R246). -/
def State.good (s : State) : Prop :=
  s.phase = .p9 ∧ s.panel.undef = false ∧ ∀ r, s.resp = some r → r.status ≠ .eBus

/-! ## Premises -/

/-- The next `n` bus writes succeed: the premise R229 asks of a claim about what an operation draws. -/
def State.writesOk (s : State) (n : Nat) : Prop :=
  ∀ k, s.xfer ≤ k → k < s.xfer + n → s.busOk k = true

/-- An operation boundary at which the drawing operations are accepted (R236, R238, R27). -/
def State.ready (s : State) : Prop :=
  s.busy = false ∧ s.phase = .p9 ∧ s.busWidth = .w8

/-- The legal pairs of R24. -/
def State.legalScreen (s : State) : Prop :=
  (s.width = 240 ∧ s.height = 320) ∨ (s.width = 320 ∧ s.height = 240)

/-- The panel as CONSTRUCT leaves it as far as drawing needs it (R40, R43, R132, R169): not undefined,
no parameter list left incomplete, 16 bits per pixel. -/
def State.panelReady (s : State) : Prop :=
  s.panel.undef = false ∧ s.panel.incomplete s.cfg = false ∧ s.panel.pixfmt = .of s.cfg.payPixset

/-- The panel takes a pixel as one: armed, not undefined, under a valid window (R148, R149). -/
def State.panelTakesPixels (s : State) : Prop :=
  s.panel.armed = true ∧ s.panel.undef = false ∧
  s.panel.windowOk s.cfg s.width s.height = true

/-! ## Frames -/

/-- `t` is `s` but for what sending over the wire changes: `S.dc`, `S.xfer`, `T`, the panel, and the
response port. -/
def State.onlyWire (s t : State) : Prop :=
  t = { s with dc := t.dc, xfer := t.xfer, trace := t.trace, panel := t.panel, resp := t.resp }

/-- How many of a list of events are bus writes (R31). -/
def busWrites : List Event → Nat
  | [] => 0
  | .write8 _ :: es => busWrites es + 1
  | .write16 _ :: es => busWrites es + 1
  | .pin _ _ :: es => busWrites es
  | .busWidth _ :: es => busWrites es
  | .delay _ :: es => busWrites es

/-- From `s` to `t` exactly the events `es` were emitted, the mode-select line ends at `level`, and
nothing but the wire changed. -/
def State.sent (s t : State) (es : List Event) (level : Level) : Prop :=
  t.trace = s.trace ++ es ∧ t.xfer = s.xfer + busWrites es ∧ t.dc = .driven level ∧ s.onlyWire t

/-- Every pixel of the frame memory reads as before but those `where_` names. Columns are 16-bit
(R92). -/
def State.pixelsKept (s t : State) (where_ : Nat → Nat → Prop) : Prop :=
  ∀ x y, x < 65536 → ¬ where_ x y → t.pixel x y = s.pixel x y

/-- From `s` to `t` the pixel `c` was written at the cursor of `s` and no other pixel changed (R148). -/
def State.pixelWritten (s t : State) (c : Color565) : Prop :=
  t.panel.undef = false ∧ t.pixel s.panel.cx.val.toNat s.panel.cy.val.toNat = some c ∧
  s.pixelsKept t (fun x y => x = s.panel.cx.val.toNat ∧ y = s.panel.cy.val.toNat)

/-- The window registers of the panel and its cursor (R33, R34, R38), as coordinates. -/
def Panel.windowAt (p : Panel) (left right top bottom curX curY : Int) : Prop :=
  p.sc = .of (BitVec.ofInt 16 left) ∧ p.ec = .of (BitVec.ofInt 16 right) ∧
  p.sp = .of (BitVec.ofInt 16 top) ∧ p.ep = .of (BitVec.ofInt 16 bottom) ∧
  p.cx = .of (BitVec.ofInt 16 curX) ∧ p.cy = .of (BitVec.ofInt 16 curY)

/-! ## The traces of the spec as events -/

/-- `[hi8(v), lo8(v)]` with `hi8(v) = (v mod 65536) div 256`, `lo8(v) = v mod 256` (R10). -/
def coordBytes (v : Int) : List Byte := [BitVec.ofInt 8 (v % 65536 / 256), BitVec.ofInt 8 (v % 256)]

/-- `C W[opcode]` (R125). -/
def cmdEvents (cfg : Cfg) (opcode : Byte) : List Event :=
  [.pin .dc cfg.dcCmdLevel, .write8 [opcode]]

/-- `D W[bytes]` (R126). -/
def dataEvents (cfg : Cfg) (l : List Byte) : List Event :=
  [.pin .dc cfg.dcDataLevel, .write8 l]

/-- `D X[words]` (R127). -/
def wordEvents (cfg : Cfg) (l : List Word16) : List Event :=
  [.pin .dc cfg.dcDataLevel, .write16 l]

/-- The ten events of `setWindow` (R140). -/
def windowEvents (cfg : Cfg) (left right top bottom : Int) : List Event :=
  [.pin .dc cfg.dcCmdLevel, .write8 [cfg.opcCaset],
   .pin .dc cfg.dcDataLevel, .write8 (coordBytes left ++ coordBytes right),
   .pin .dc cfg.dcCmdLevel, .write8 [cfg.opcPaset],
   .pin .dc cfg.dcDataLevel, .write8 (coordBytes top ++ coordBytes bottom),
   .pin .dc cfg.dcCmdLevel, .write8 [cfg.opcRamwr]]

/-- `BW(16)`, the word batches, `BW(8)` (R129). -/
def bracketEvents (cfg : Cfg) (batches : List (List Word16)) : List Event :=
  [.busWidth .w16] ++ batches.flatMap (wordEvents cfg) ++ [.busWidth .w8]

/-- The fourteen events of DRAW_PIXEL (R185). -/
def pixelEvents (cfg : Cfg) (x y : Int) (c : Color565) : List Event :=
  windowEvents cfg x x y y ++ bracketEvents cfg [[c]]

/-- The 58 events of a successful CONSTRUCT (R165). -/
def constructEvents (cfg : Cfg) (o : Orientation) : List Event :=
  [.pin .rst .low, .delay cfg.tRstLow, .pin .rst .high] ++
  cmdEvents cfg cfg.opcSwreset ++ [.delay cfg.tSwreset] ++
  cmdEvents cfg cfg.opcDispoff ++
  cmdEvents cfg cfg.opcMadctl ++ dataEvents cfg [orientByte cfg o] ++
  windowEvents cfg 0 ((screenWidth o : Int) - 1) 0 ((screenHeight o : Int) - 1) ++
  cmdEvents cfg cfg.opcPixset ++ dataEvents cfg cfg.payPixset ++
  cmdEvents cfg cfg.opcFrmctr ++ dataEvents cfg cfg.payFrmctr ++
  cmdEvents cfg cfg.opcGamset ++ dataEvents cfg cfg.payGamset ++
  cmdEvents cfg cfg.opcCaset ++ dataEvents cfg cfg.payCasetDefault ++
  cmdEvents cfg cfg.opcPaset ++ dataEvents cfg cfg.payPasetDefault ++
  cmdEvents cfg cfg.opcEtmod ++ dataEvents cfg cfg.payEtmod ++
  cmdEvents cfg cfg.opcDfunctr ++ dataEvents cfg cfg.payDfunctr ++
  cmdEvents cfg cfg.opcSlpout ++ [.delay cfg.tSlpout] ++
  cmdEvents cfg cfg.opcDispon ++ [.delay cfg.tDispon] ++
  cmdEvents cfg cfg.opcRamwr

/-- A glyph drawChar accepts (R212, D29). -/
def glyphDrawable (g : Glyph) : Prop :=
  1 ≤ g.width ∧ 1 ≤ g.height ∧ g.width * g.height ≤ 8 * (g.bitmap.length : Int)

/-- Pixel `k` of a glyph in the colours given: bit `7 - (k mod 8)` of byte `k div 8` (R210, R212). -/
def glyphColor (fg bg : Color565) (g : Glyph) (k : Nat) : Color565 :=
  if (g.bitmap.getD (k / 8) 0).getLsbD (7 - k % 8) then fg else bg

/-- The fourteen events of drawChar (R212). -/
def charEvents (cfg : Cfg) (x y : Int) (fg bg : Color565) (g : Glyph) : List Event :=
  windowEvents cfg x (x + g.width - 1) y (y + g.height - 1) ++
  bracketEvents cfg [(List.range (g.width * g.height).toNat).map (glyphColor fg bg g)]

/-- A glyph placed at a cursor. -/
structure Placed where
  x : Int
  y : Int
  glyph : Glyph
deriving DecidableEq, Repr

/-- Where drawString places the glyphs of a text from cursor `(curX, curY)` on, and the status it ends
with, as the algorithm of R214 says: `width` is `S.width`, `x` the call's column. -/
def stringLayout (width : Int) (font : Font) (x : Int) :
    List Char → Int → Int → List Placed × Status
  | [], _, _ => ([], .ok)
  | ch :: rest, curX, curY =>
    match lookupGlyph font ch with
    | none => if ch = '\r' then stringLayout width font x rest x curY else ([], .eContract)
    | some g =>
      if ch = '\n' then stringLayout width font x rest curX (curY + g.height)
      else if ch = '\r' then stringLayout width font x rest x curY
      else if g.width < 1 ∨ g.height < 1 ∨ 8 * (g.bitmap.length : Int) < g.width * g.height then
        ([], .eContract)
      else if curX + g.width > width then
        let more := stringLayout width font x rest (x + g.width + g.spacing) (curY + g.height)
        (⟨x, curY + g.height, g⟩ :: more.1, more.2)
      else
        let more := stringLayout width font x rest (curX + g.width + g.spacing) curY
        (⟨curX, curY, g⟩ :: more.1, more.2)

/-! ## Effects stated of several instructions -/

/-- The panel after a reset (R257): the fields of the reset table at their values, the others
unspecified, no pixel with a value. -/
def Panel.isReset (p : Panel) : Prop :=
  p.cmd = none ∧ p.par = [] ∧ p.armed = false ∧ p.half = none ∧ p.undef = false ∧ p.other = [] ∧
  p.sleeping = true ∧ p.displayOn = false ∧ p.sc.known = false ∧ p.ec.known = false ∧
  p.sp.known = false ∧ p.ep.known = false ∧ p.cx.known = false ∧ p.cy.known = false ∧
  p.madctl.known = false ∧ p.pixfmt.known = false ∧
  ∀ x y, Memory.read p.fm (pixelKey x y) = none

/-- From `s` to `t` a frame of opcode `op` with payload `l` was sent and stored in `P.other`, and
nothing else of the panel changed but the command latch (R134). -/
def State.storedIn (s t : State) (op : Byte) (l : List Byte) : Prop :=
  s.sent t (cmdEvents s.cfg op ++ dataEvents s.cfg l) s.cfg.dcDataLevel ∧ t.resp = s.resp ∧
  otherGet t.panel.other op = some l ∧
  (∀ c, c ≠ op → otherGet t.panel.other c = otherGet s.panel.other c) ∧
  t.panel =
    { s.panel with
      undef := s.panel.undef || s.panel.incomplete s.cfg, cmd := some op, par := l, half := none
      armed := false, other := t.panel.other }

/-- What `orient(o)` does from `s` to `t` (R175, R178): the new dimensions, the fourteen events, the
register byte and the full-screen window on the panel, the panel armed, every pixel unspecified, and
nothing else changed but possibly the response. -/
def State.oriented (s t : State) (o : Orientation) : Prop :=
  t = { s with
    width := t.width, height := t.height, orient := o, dc := .driven s.cfg.dcCmdLevel
    xfer := s.xfer + 7
    trace := s.trace ++ (cmdEvents s.cfg s.cfg.opcMadctl ++ dataEvents s.cfg [orientByte s.cfg o] ++
      windowEvents s.cfg 0 ((t.width : Int) - 1) 0 ((t.height : Int) - 1))
    panel := t.panel, resp := t.resp } ∧
  (t.width, t.height) = (if o = .portrait ∨ o = .portraitFlipped then (240, 320) else (320, 240)) ∧
  t.panel =
    { s.panel with
      undef := s.panel.undef || s.panel.incomplete s.cfg, cmd := some s.cfg.opcRamwr, par := []
      half := none, armed := true, madctl := .of (orientByte s.cfg o), fm := []
      sc := .of 0, ec := .of (BitVec.ofNat 16 (t.width - 1))
      sp := .of 0, ep := .of (BitVec.ofNat 16 (t.height - 1)), cx := .of 0, cy := .of 0 }

/-- The word batches of a fill of `W` by `H` pixels (R187, R190). -/
def rectBatches (W H : Nat) (c : Color565) : List (List Word16) :=
  if W * H % 2 = 0 then [List.replicate (W * H) c] else List.replicate H (List.replicate W c)

/-- Row `j` of a blit: `Buf[j*stride + i]` for `i` below `w` (R194). -/
def blitRow (buf : List Color565) (stride w j : Nat) : List Word16 :=
  (List.range w).map fun i => buf.getD (j * stride + i) 0

/-- From `s` to `t` the whole logical screen was filled with `c` (R198): the events of FILL_RECT over
it, status OK, only the wire changed, and on a panel ready to draw every pixel is `c`. -/
def State.screenFilled (s t : State) (c : Color565) : Prop :=
  s.sent t (windowEvents s.cfg 0 ((s.width : Int) - 1) 0 ((s.height : Int) - 1) ++
    cmdEvents s.cfg s.cfg.opcRamwr ++ bracketEvents s.cfg [List.replicate 76800 c])
    s.cfg.dcDataLevel ∧
  t.resp = some ⟨.ok, 0⟩ ∧
  (s.cfg.wf → s.panelReady →
    t.panel.undef = false ∧ ∀ x y, x < s.width → y < s.height → t.pixel x y = some c)

/-! ## Trace disciplines -/

/-- Read from transfer width `w` on: every `Write8` comes at width 8, every `Write16` at width 16
(R129). -/
def widthDiscipline : BusWidth → List Event → Bool
  | _, [] => true
  | _, .busWidth w' :: es => widthDiscipline w' es
  | w, .write8 _ :: es => decide (w = .w8) && widthDiscipline w es
  | w, .write16 _ :: es => decide (w = .w16) && widthDiscipline w es
  | w, .pin _ _ :: es => widthDiscipline w es
  | w, .delay _ :: es => widthDiscipline w es

/-- The transfer width after a list of events, from width `w` on (R79). -/
def widthAfter : BusWidth → List Event → BusWidth
  | w, [] => w
  | _, .busWidth w' :: es => widthAfter w' es
  | w, .write8 _ :: es => widthAfter w es
  | w, .write16 _ :: es => widthAfter w es
  | w, .pin _ _ :: es => widthAfter w es
  | w, .delay _ :: es => widthAfter w es

/-- Every bus write is preceded, with no bus write between, by a `Pin(DC, _)` event (R261); `seen` says
that one has come since the last bus write. -/
def modeLineFirst : Bool → List Event → Bool
  | _, [] => true
  | _, .pin .dc _ :: es => modeLineFirst true es
  | seen, .pin .rst _ :: es => modeLineFirst seen es
  | seen, .pin .bl _ :: es => modeLineFirst seen es
  | seen, .write8 _ :: es => seen && modeLineFirst false es
  | seen, .write16 _ :: es => seen && modeLineFirst false es
  | seen, .busWidth _ :: es => modeLineFirst seen es
  | seen, .delay _ :: es => modeLineFirst seen es

/-! ## Invariants -/

/-- What every step keeps, whatever the host presents. -/
structure State.Inv (s : State) : Prop where
  /-- The parameters meet R8's conditions. -/
  cfg : s.cfg.wf
  /-- The frame memory is in canonical form. -/
  mem : Memory.wf s.panel.fm
  /-- `S.busy` is clear between steps (R28). -/
  idle : s.busy = false
  /-- "The only phases a request can meet are `P0`, `P9` and `FAILED`" (R236). -/
  phase : s.phase = .p0 ∨ s.phase = .p9 ∨ s.phase = .failed
  /-- In `P9` the logical size is one of the legal pairs (R24). -/
  screen : s.phase = .p9 → s.legalScreen
  /-- While armed, the cursor stays inside a proper window (R147, R148). -/
  cursor : s.panel.undef = false → s.panel.armed = true →
    s.panel.sc.val.toNat ≤ s.panel.ec.val.toNat → s.panel.sp.val.toNat ≤ s.panel.ep.val.toNat →
    (s.panel.sc.val.toNat ≤ s.panel.cx.val.toNat ∧ s.panel.cx.val.toNat ≤ s.panel.ec.val.toNat) ∧
    (s.panel.sp.val.toNat ≤ s.panel.cy.val.toNat ∧ s.panel.cy.val.toNat ≤ s.panel.ep.val.toNat)
  /-- Every pixel with a value lies on the logical screen (R61, R77). -/
  onScreen : s.panel.undef = false →
    ∀ e ∈ s.panel.fm, e.1 % 65536 < s.width ∧ e.1 / 65536 < s.height

/-- What every request and text operation keeps: beside the invariant, the bus is in 8-bit mode at
every operation boundary (R27, R231), and after construction the panel is ready to draw unless it
is undefined (R169). -/
structure State.Settled (s : State) : Prop where
  inv : s.Inv
  width8 : s.busWidth = .w8
  panel : s.phase = .p9 → s.panel.undef = false → s.panelReady

end Sys2Proof.Machine
end

