-- ==== Sys2Proof/Certificates/Slice0/Obligations.lean ====
section
/-! DEFINITION. The statements for the provers. Each docstring names the rules of spec/ it formalises;
where a statement rests on a choice of the model it names the log entry. -/

open Sys2Proof Sys2Proof.Machine

/-! ## Encoding (spec 30) -/

/-- Decoding the encoding of a well-formed instruction gives it back, for every instruction, every
operand value and every configuration R8 admits (R92, R94, R100 to R103). -/
def Obligations.DecodeOfEncode : Prop :=
  ∀ (cfg : Cfg) (i : Instr), cfg.wf → i.wf cfg = true → decode cfg (encode cfg i) = .ok i

/-- Every bit of an encoding counts: a request word or a frame that decodes to an instruction is that
instruction's encoding, and the instruction is well formed (R90 to R94, R102, R103, R133). -/
def Obligations.DecodedBitsAreTheEncoding : Prop :=
  (∀ (cfg : Cfg) (w : BitVec 96) (i : Instr), decodeRequest w = .ok i →
    i.wf cfg = true ∧ encode cfg i = .request w) ∧
  (∀ (cfg : Cfg) (bytes : List Byte) (i : Instr), decodeFrame cfg bytes = .ok i →
    i.wf cfg = true ∧ encode cfg i = .frame bytes)

/-- "A request word `w` selects the row with `w AND mask = match`, and the rows are pairwise disjoint"
(R103), for the twelve rows with the table's match and mask; a word is refused exactly when it
matches no row (R104). -/
def Obligations.RowSelectedByMatchAndMask : Prop :=
  (∀ (w : BitVec 96) (r : TableRow), r ∈ requestRows →
    (w &&& r.mask = r.pat ↔ ∃ i, decodeRequest w = .ok i ∧ i.mnemonic = r.mnemonic)) ∧
  (∀ (w : BitVec 96) (r q : TableRow), r ∈ requestRows → q ∈ requestRows →
    w &&& r.mask = r.pat → w &&& q.mask = q.pat → r = q) ∧
  (∀ w : BitVec 96, (∀ r ∈ requestRows, w &&& r.mask ≠ r.pat) ↔ ∃ e, decodeRequest w = .error e)

/-- Seven request words written out in spec 95 decode to the operations they stand for, or are refused;
and the opcode byte of CASET, which is no word of spec 95, decodes to CASET 0 0: that a table word of
one byte is presented as a frame with zero parameters is the model's choice (log 23), and the opcode is
that of the default configuration (log 1). -/
def Obligations.PublishedWordsDecode : Prop :=
  decodeTableWord 96 0x000001000000000000000000 = some (.construct .landscape) ∧
  decodeTableWord 96 0x380000000000000000123456 = some (.toColor565 0x123456) ∧
  decodeTableWord 96 0x40FFFF000000000000001111 = some (.drawPixel565 0xFFFF 0 0x1111) ∧
  decodeTableWord 96 0x50000500070009000B00001F = some (.fillRect 5 7 9 11 0x001F) ∧
  decodeTableWord 96 0x680005000500010000FF0000 = some (.drawCircle888 5 5 1 0xFF0000) ∧
  decodeTableWord 96 0x7000EE000000040001000000 = some (.flush 238 0 4 1) ∧
  decodeTableWord 96 0x100004000000000000000000 = none ∧
  decodeTableWord 8 0x2A = some (.caset 0 0)

/-! ## The port and the step (spec 20, 60) -/

/-- With the lock free and a presented operation that decodes to `i` next at the port, a step takes it
off the port and is `exec i`; the step at `withFetchWord` is such a step. -/
def Obligations.StepRunsThePresentedInstruction : Prop :=
  (∀ (s : State) (p : Presented) (rest : List HostMove) (i : Instr), s.busy = false →
    s.port = .present p :: rest → decode s.cfg p = .ok i → step s = exec i { s with port := rest }) ∧
  (∀ (s : State) (nbits w : Nat) (i : Instr), s.cfg = Cfg.default →
    decodeTableWord nbits w = some i → step (s.withFetchWord nbits w) = exec i { s with busy := false })

/-- A word that matches no row "is refused: the engine emits no event, changes no state and returns
status `E_RESERVED`" (R104), in every phase (R228); the word is off the port. -/
def Obligations.ReservedWordAnswersReserved : Prop :=
  ∀ (s : State) (w : BitVec 96) (rest : List HostMove), s.busy = false →
    s.port = .present (.request w) :: rest → (∀ r ∈ requestRows, w &&& r.mask ≠ r.pat) →
    step s = .next { s with port := rest, resp := some ⟨.eReserved, 0⟩ }

/-- "A model gives the host no move while `S.busy` is set" (R76): with the lock taken, or with no move at
the port, a step changes nothing. The host may "supply any `Buf` and any font data" and the
construction tokens (R245): a supply step writes that port and nothing else (log 11). -/
def Obligations.HostMovesBetweenOperations : Prop :=
  (∀ s : State, (s.busy = true ∨ s.port = []) → step s = .next s) ∧
  (∀ (s : State) (rest : List HostMove), s.busy = false →
    (∀ l, s.port = .supplyBuf l :: rest → step s = .next { s with port := rest, buf := l }) ∧
    (∀ f, s.port = .supplyFont f :: rest → step s = .next { s with port := rest, font := f }) ∧
    (∀ k, s.port = .supplyTokens k :: rest → step s = .next { s with port := rest, ctorPort := k }))

/-! ## Colour encoder (spec 40) -/

/-- TO_COLOR565 (R120, R121): the request word with `op = 0x3`, `cfmt = 1` and `color = c` is this
operation; on every state, with every 24-bit colour, the result is `2048*r5 + 32*g6 + b5` with
`r5 = c[23:19]`, `g6 = c[15:10]`, `b5 = c[7:3]`, the status is OK, and nothing but the response
changes. "It is also the conversion applied at decode to every tagged colour with `cfmt = 1`": the
`_888` rows are the `_565` rows on the converted colour. -/
def Obligations.ToColor565Result : Prop :=
  ∀ (c : Color888) (s : State),
    decodeRequest (0x380000000000000000#72 ++ c) = .ok (.toColor565 c) ∧
    exec (.toColor565 c) s =
      .next { s with
        resp := some ⟨.ok, BitVec.ofNat 16
          (2048 * (c.toNat / 524288) + 32 * (c.toNat / 1024 % 64) + c.toNat / 8 % 32)⟩ } ∧
    ∃ k : Color565,
      k.toNat = 2048 * (c.toNat / 524288) + 32 * (c.toNat / 1024 % 64) + c.toNat / 8 % 32 ∧
      (∀ x y, exec (.drawPixel888 x y c) s = exec (.drawPixel565 x y k) s) ∧
      ∀ x y r, exec (.drawCircle888 x y r c) s = exec (.drawCircle565 x y r k) s

/-- "Every Color565 `k` is the image of the Color888 `{k[15:11], 000, k[10:5], 00, k[4:0], 000}`" (R122,
an inference the spec marks as its own). -/
def Obligations.ToColor565Onto : Prop :=
  ∀ k : Color565,
    toColor565 (k.extractLsb' 11 5 ++ 0#3 ++ k.extractLsb' 5 6 ++ 0#2 ++ k.extractLsb' 0 5 ++ 0#3) = k

/-! ## Command transport (spec 41) -/

/-- sendCommand completes (R125): the mode line at the command level, then a batch of one byte; the panel
receives it as a command byte (R132). Only the wire changes. -/
def Obligations.SendCommandCompletes : Prop :=
  ∀ (s : State) (b : Byte), s.busWidth = .w8 → s.writesOk 1 →
    ∃ t, exec (.sendCommand b) s = .next t ∧
      s.sent t [.pin .dc s.cfg.dcCmdLevel, .write8 [b]] s.cfg.dcCmdLevel ∧ t.resp = s.resp ∧
      t.panel = s.panel.commandByte s.cfg (s.trace.length + 1) b

/-- sendData8 completes (R126): the mode line at the data level, then the whole list as one batch, also
an empty one; each byte is received in order (R131). Only the wire changes. At an armed panel a first
byte waits in `P.half` and the second makes the pixel `256*h + b` and clears it, in one batch or in two
(R68, R135); at a panel that is not armed a parameter beyond the expected count, or one without a
command, sets `P.undef` (R134). -/
def Obligations.SendData8Completes : Prop :=
  ∀ (s : State) (l : List Byte), s.cfg.wf → s.busWidth = .w8 → s.writesOk 1 →
    ∃ t, exec (.sendData8 l) s = .next t ∧
      s.sent t [.pin .dc s.cfg.dcDataLevel, .write8 l] s.cfg.dcDataLevel ∧ t.resp = s.resp ∧
      t.panel = l.foldl (Panel.dataByte s.cfg s.width s.height) s.panel ∧
      (s.panel.armed = true → s.panel.half = none → ∀ b, l = [b] →
        t.panel = { s.panel with half := some b }) ∧
      (s.panelTakesPixels → ∀ h b : Byte,
        (s.panel.half = none ∧ l = [h, b] ∨ s.panel.half = some h ∧ l = [b]) →
        t.panel.half = none ∧ s.pixelWritten t (BitVec.ofNat 16 (256 * h.toNat + b.toNat))) ∧
      (s.panel.armed = false → l ≠ [] →
        (s.panel.cmd = none ∨ ∃ c, s.panel.cmd.bind s.cfg.command? = some c ∧
          s.cfg.expected c < s.panel.par.length + l.length) →
        t.panel.undef = true)

/-- sendData16 completes at bus width 16 (R127). Only the wire changes. At an armed panel a word is one
pixel of its value (R135); a word while a half pixel is pending (R135), or while the panel is not armed
(R136), sets `P.undef`. -/
def Obligations.SendData16Completes : Prop :=
  ∀ (s : State) (l : List Word16), s.cfg.wf → s.busWidth = .w16 → s.writesOk 1 →
    ∃ t, exec (.sendData16 l) s = .next t ∧
      s.sent t [.pin .dc s.cfg.dcDataLevel, .write16 l] s.cfg.dcDataLevel ∧ t.resp = s.resp ∧
      t.panel = l.foldl (Panel.dataWord s.cfg s.width s.height) s.panel ∧
      (s.panelTakesPixels → s.panel.half = none → ∀ w, l = [w] → s.pixelWritten t w) ∧
      ((s.panel.armed = false ∨ s.panel.half ≠ none) → l ≠ [] → t.panel.undef = true)

/-- A word transfer while the bus is in 8-bit mode, or a byte transfer in 16-bit mode, is refused by name
(R69, R127; log 16 for the byte side). -/
def Obligations.WrongWidthRefused : Prop :=
  ∀ (s : State) (words : List Word16) (bytes : List Byte) (b : Byte),
    (s.busWidth = .w8 →
      exec (.sendData16 words) s = .refused .wordTransferInByteMode ∧
      exec (.busWrite (.words words)) s = .refused .wordTransferInByteMode) ∧
    (s.busWidth = .w16 →
      exec (.sendData8 bytes) s = .refused .byteTransferInWordMode ∧
      exec (.sendCommand b) s = .refused .byteTransferInWordMode ∧
      exec (.busWrite (.bytes bytes)) s = .refused .byteTransferInWordMode)

/-- setBusWidth completes on every state (R128): one `BusWidth` event and the new width, also when it is
the old one; nothing else changes, `S.dc` neither. -/
def Obligations.SetBusWidthCompletes : Prop :=
  ∀ (s : State) (w : BusWidth),
    exec (.setBusWidth w) s = .next { s with busWidth := w, trace := s.trace ++ [.busWidth w] }

/-- busWrite (R130): the count goes up by one; if the oracle says yes the event is emitted, if not it is
not appended and BusFailure is raised, whose effects are those of R230 and R231. -/
def Obligations.BusWriteCompletes : Prop :=
  ∀ (s : State) (b : Batch), s.busWidth = batchWidth b →
    (s.busOk s.xfer = true →
      ∃ t, exec (.busWrite b) s = .next t ∧
        t = { s with xfer := s.xfer + 1, trace := s.trace ++ [batchEvent b], panel := t.panel } ∧
        t.panel =
          s.panel.receive s.cfg s.dc s.width s.height s.trace.length (batchEvent b)) ∧
    (s.busOk s.xfer = false →
      exec (.busWrite b) s =
        .next { s with
          xfer := s.xfer + 1
          trace := s.trace ++ (if s.busWidth = .w16 then [.busWidth .w8] else [])
          busWidth := .w8
          panel := { s.panel with undef := true }
          phase := .failed
          busy := false
          resp := some ⟨.eBus, 0⟩ })

/-- Whatever operation or procedure meets a failing bus write, in whatever phase, the effects of R230 and
R231 hold: the phase is FAILED, `P.undef` is set, the lock is free, the status is E_BUS; the last bus
write counted is the first one the oracle refused. The events are those the same instruction emits when
no write fails, up to that write's batch, every write counted before it among them, then `BusWidth(8)`
exactly if the width was 16 there; the width is 8 after. The same holds of every instruction that takes another phase to FAILED. -/
def Obligations.BusFailureEffects : Prop :=
  ∀ (i : Instr) (s t : State), exec i s = .next t →
    ((∃ k, s.xfer ≤ k ∧ k < t.xfer ∧ s.busOk k = false) ∨ s.phase ≠ .failed ∧ t.phase = .failed) →
    t.phase = .failed ∧ t.panel.undef = true ∧ t.busy = false ∧ t.busWidth = .w8 ∧
    t.resp = some ⟨.eBus, 0⟩ ∧ s.xfer < t.xfer ∧ s.busOk (t.xfer - 1) = false ∧
    (∀ k, s.xfer ≤ k → k < t.xfer - 1 → s.busOk k = true) ∧
    ∀ u, exec i { s with busFails := [] } = .next u →
      ∃ es failing rest, u.trace = s.trace ++ (es ++ batchEvent failing :: rest) ∧
        t.xfer = s.xfer + busWrites es + 1 ∧
        t.trace = s.trace ++ es ++
          (if widthAfter s.busWidth es = .w16 then [.busWidth .w8] else [])

/-! ## The panel receiver and the wire commands (spec 41, 42) -/

/-- SLPOUT, DISPOFF, DISPON and RAMWR frames complete (R90, R132, R147): two events, one bus write, and
on the panel the command latch, the parameter list, the half pixel, the armed bit, and the command's
own effect; every other panel field and every pixel is unchanged. -/
def Obligations.PlainCommandsComplete : Prop :=
  ∀ s : State, s.cfg.wf → s.busWidth = .w8 → s.writesOk 1 →
    (∃ t, exec .slpout s = .next t ∧ s.sent t (cmdEvents s.cfg s.cfg.opcSlpout) s.cfg.dcCmdLevel ∧
      t.resp = s.resp ∧ t.panel =
        { s.panel with
          undef := s.panel.undef || s.panel.incomplete s.cfg, cmd := some s.cfg.opcSlpout, par := []
          half := none, armed := false, sleeping := false }) ∧
    (∃ t, exec .dispoff s = .next t ∧ s.sent t (cmdEvents s.cfg s.cfg.opcDispoff) s.cfg.dcCmdLevel ∧
      t.resp = s.resp ∧ t.panel =
        { s.panel with
          undef := s.panel.undef || s.panel.incomplete s.cfg, cmd := some s.cfg.opcDispoff, par := []
          half := none, armed := false, displayOn := false }) ∧
    (∃ t, exec .dispon s = .next t ∧ s.sent t (cmdEvents s.cfg s.cfg.opcDispon) s.cfg.dcCmdLevel ∧
      t.resp = s.resp ∧ t.panel =
        { s.panel with
          undef := s.panel.undef || s.panel.incomplete s.cfg, cmd := some s.cfg.opcDispon, par := []
          half := none, armed := false, displayOn := true }) ∧
    (∃ t, exec .ramwr s = .next t ∧ s.sent t (cmdEvents s.cfg s.cfg.opcRamwr) s.cfg.dcCmdLevel ∧
      t.resp = s.resp ∧ t.panel =
        { s.panel with
          undef := s.panel.undef || s.panel.incomplete s.cfg, cmd := some s.cfg.opcRamwr, par := []
          half := none, armed := true, cx := s.panel.sc, cy := s.panel.sp })

/-- Either panel reset (R257): an SWRESET frame completes and leaves the panel reset (R132), and so does
the reset line driven low, in whatever state the panel is. Only the wire changes. -/
def Obligations.PanelResets : Prop :=
  (∀ s : State, s.cfg.wf → s.busWidth = .w8 → s.writesOk 1 →
    ∃ t, exec .swreset s = .next t ∧ s.sent t (cmdEvents s.cfg s.cfg.opcSwreset) s.cfg.dcCmdLevel ∧
      t.resp = s.resp ∧ t.panel.isReset) ∧
  (∀ (p : Panel) (cfg : Cfg) (dc : Drive) (w h n : Nat),
    (p.receive cfg dc w h n (.pin .rst .low)).isReset)

/-- CASET and PASET frames complete (R90, R92, R145, R146): the range registers take the two big-endian
coordinates, the cursor does not move, the panel is disarmed, no pixel changes. -/
def Obligations.RangeCommandsLatch : Prop :=
  ∀ (s : State) (a b : Word16), s.cfg.wf → s.busWidth = .w8 → s.writesOk 2 →
    (∃ t, exec (.caset a b) s = .next t ∧
      s.sent t (cmdEvents s.cfg s.cfg.opcCaset ++ dataEvents s.cfg (be16 a ++ be16 b))
        s.cfg.dcDataLevel ∧
      t.resp = s.resp ∧ t.panel =
        { s.panel with
          undef := s.panel.undef || s.panel.incomplete s.cfg, cmd := some s.cfg.opcCaset
          par := be16 a ++ be16 b, half := none, armed := false, sc := .of a, ec := .of b }) ∧
    (∃ t, exec (.paset a b) s = .next t ∧
      s.sent t (cmdEvents s.cfg s.cfg.opcPaset ++ dataEvents s.cfg (be16 a ++ be16 b))
        s.cfg.dcDataLevel ∧
      t.resp = s.resp ∧ t.panel =
        { s.panel with
          undef := s.panel.undef || s.panel.incomplete s.cfg, cmd := some s.cfg.opcPaset
          par := be16 a ++ be16 b, half := none, armed := false, sp := .of a, ep := .of b })

/-- A MADCTL frame completes (R94, R134, R178): the register takes the byte and "every pixel of `FM`" is
unspecified, also when the byte is the one already there. -/
def Obligations.MadctlForgetsTheFrame : Prop :=
  ∀ (s : State) (b : Byte), s.cfg.wf → s.busWidth = .w8 → s.writesOk 2 →
    ∃ t, exec (.madctl b) s = .next t ∧
      s.sent t (cmdEvents s.cfg s.cfg.opcMadctl ++ dataEvents s.cfg [b]) s.cfg.dcDataLevel ∧
      t.resp = s.resp ∧ (∀ x y, t.pixel x y = none) ∧
      t.panel =
        { s.panel with
          undef := s.panel.undef || s.panel.incomplete s.cfg, cmd := some s.cfg.opcMadctl
          par := [b], half := none, armed := false, madctl := .of b, fm := [] }

/-- A PIXSET frame with a payload of the configured length completes and sets the pixel format (R134,
R160). -/
def Obligations.PixsetSetsTheFormat : Prop :=
  ∀ (s : State) (l : List Byte), s.cfg.wf → s.busWidth = .w8 → s.writesOk 2 →
    l.length = s.cfg.payPixset.length →
    ∃ t, exec (.pixset l) s = .next t ∧
      s.sent t (cmdEvents s.cfg s.cfg.opcPixset ++ dataEvents s.cfg l) s.cfg.dcDataLevel ∧
      t.resp = s.resp ∧ t.panel =
        { s.panel with
          undef := s.panel.undef || s.panel.incomplete s.cfg, cmd := some s.cfg.opcPixset
          par := l, half := none, armed := false, pixfmt := .of l }

/-- FRMCTR, GAMSET, ETMOD and DFUNCTR frames with a payload of the configured length complete, and
`P.other` holds the payload (R42, R134). -/
def Obligations.RegisterCommandsStore : Prop :=
  ∀ (s : State) (l : List Byte), s.cfg.wf → s.busWidth = .w8 → s.writesOk 2 →
    (l.length = s.cfg.payFrmctr.length →
      ∃ t, exec (.frmctr l) s = .next t ∧ State.storedIn s t s.cfg.opcFrmctr l) ∧
    (l.length = s.cfg.payGamset.length →
      ∃ t, exec (.gamset l) s = .next t ∧ State.storedIn s t s.cfg.opcGamset l) ∧
    (l.length = s.cfg.payEtmod.length →
      ∃ t, exec (.etmod l) s = .next t ∧ State.storedIn s t s.cfg.opcEtmod l) ∧
    (l.length = s.cfg.payDfunctr.length →
      ∃ t, exec (.dfunctr l) s = .next t ∧ State.storedIn s t s.cfg.opcDfunctr l)

/-- An opcode outside the thirteen (R95): the panel "records it in `P.cmd`, disarms, stores its parameters
in `P.other`, and sets `P.undef`". -/
def Obligations.UnlistedOpcodeUndefines : Prop :=
  ∀ (s : State) (b : Byte) (l : List Byte), s.cfg.wf → s.busWidth = .w8 → s.writesOk 2 →
    s.cfg.command? b = none → l ≠ [] →
    ∃ t u, exec (.sendCommand b) s = .next t ∧ t.panel.cmd = some b ∧ t.panel.armed = false ∧
      t.panel.undef = true ∧
      exec (.sendData8 l) t = .next u ∧ otherGet u.panel.other b = some l ∧ u.panel.undef = true

/-- "`P.undef` ... Once set, no rule clears it except the hardware reset pulse and the software-reset
command" (R43): an instruction that leaves it clear after it was set sends one of them. -/
def Obligations.UndefIsSticky : Prop :=
  ∀ (i : Instr) (s t : State), s.cfg.wf → exec i s = .next t → s.panel.undef = true →
    t.panel.undef = false →
    (∃ o, i = .construct o) ∨ i = .swreset ∨ i = .sendCommand s.cfg.opcSwreset ∨
    ∃ l, i = .busWrite (.bytes l) ∧ s.cfg.opcSwreset ∈ l

/-- Batch boundaries do not matter to the panel (R63): a run of data units received in two batches
leaves the same `P` and `FM` as in one. -/
def Obligations.BatchBoundariesDoNotMatter : Prop :=
  ∀ (cfg : Cfg) (w h n m : Nat) (p : Panel), cfg.wf →
    (∀ a b : List Byte,
      p.receive cfg (.driven cfg.dcDataLevel) w h n (.write8 (a ++ b)) =
        (p.receive cfg (.driven cfg.dcDataLevel) w h n (.write8 a)).receive cfg
          (.driven cfg.dcDataLevel) w h m (.write8 b)) ∧
    (∀ a b : List Word16,
      p.receive cfg (.driven cfg.dcDataLevel) w h n (.write16 (a ++ b)) =
        (p.receive cfg (.driven cfg.dcDataLevel) w h n (.write16 a)).receive cfg
          (.driven cfg.dcDataLevel) w h m (.write16 b))

/-! ## Window addressing (spec 42) -/

/-- setWindow completes for every four integers (R140, R141): exactly the ten events, five bus writes;
the panel's window registers hold the coordinates modulo 65536, the cursor is at the window's first
pixel, the panel is armed, no pixel changes. -/
def Obligations.SetWindowCompletes : Prop :=
  ∀ (s : State) (l r t b : Int), s.cfg.wf → s.busWidth = .w8 → s.writesOk 5 →
    ∃ u, exec (.setWindow l r t b) s = .next u ∧
      s.sent u (windowEvents s.cfg l r t b) s.cfg.dcCmdLevel ∧ u.resp = s.resp ∧
      u.panel =
        { s.panel with
          undef := s.panel.undef || s.panel.incomplete s.cfg, cmd := some s.cfg.opcRamwr, par := []
          half := none, armed := true
          sc := .of (BitVec.ofInt 16 l), ec := .of (BitVec.ofInt 16 r)
          sp := .of (BitVec.ofInt 16 t), ep := .of (BitVec.ofInt 16 b)
          cx := .of (BitVec.ofInt 16 l), cy := .of (BitVec.ofInt 16 t) }

/-- The window-address state machine (R144): a command byte moves any state to armed (`RAMWR`), idle (no
parameter expected) or collecting; the last parameter byte moves collecting to idle; pixel units keep
armed in armed. -/
def Obligations.WindowStateMachine : Prop :=
  ∀ (cfg : Cfg) (p : Panel), cfg.wf →
    (∀ (n : Nat) (b : Byte) (c : WireCmd), cfg.command? b = some c →
      (p.commandByte cfg n b).windowState cfg =
        if c = .ramwr then .armed else if cfg.expected c = 0 then .idle else .collecting) ∧
    (∀ (w h : Nat) (b : Byte) (c : WireCmd), p.windowState cfg = .collecting →
      p.cmd.bind cfg.command? = some c →
      (p.dataByte cfg w h b).windowState cfg =
        if p.par.length + 1 = cfg.expected c then .idle else .collecting) ∧
    (∀ (w h : Nat) (b : Byte) (x : Word16), p.windowState cfg = .armed →
      (p.dataByte cfg w h b).windowState cfg = .armed ∧
      (p.dataWord cfg w h x).windowState cfg = .armed)

/-- The `k`-th pixel after `RAMWR`, for `k < W*H`, "lands at `(P.SC + k mod W, P.SP + k div W)`" (R148); a
stream shorter than `W*H` leaves the remaining pixels unchanged and the cursor where it stopped. -/
def Obligations.PixelStreamIsRowMajor : Prop :=
  ∀ (cfg : Cfg) (w h : Nat) (p : Panel) (l : List Word16), p.undef = false → p.armed = true →
    p.half = none → p.windowOk cfg w h = true → p.cx = p.sc → p.cy = p.sp →
    l.length < (p.ec.val.toNat - p.sc.val.toNat + 1) * (p.ep.val.toNat - p.sp.val.toNat + 1) →
    ∃ q, l.foldl (Panel.dataWord cfg w h) p = q ∧
      q = { p with fm := q.fm, cx := q.cx, cy := q.cy } ∧
      q.cx.val.toNat = p.sc.val.toNat + l.length % (p.ec.val.toNat - p.sc.val.toNat + 1) ∧
      q.cy.val.toNat = p.sp.val.toNat + l.length / (p.ec.val.toNat - p.sc.val.toNat + 1) ∧
      (∀ k (hk : k < l.length),
        Memory.read q.fm (pixelKey
          (p.sc.val.toNat + k % (p.ec.val.toNat - p.sc.val.toNat + 1))
          (p.sp.val.toNat + k / (p.ec.val.toNat - p.sc.val.toNat + 1))) = some l[k]) ∧
      (∀ key, (∀ k < l.length, key ≠ pixelKey
          (p.sc.val.toNat + k % (p.ec.val.toNat - p.sc.val.toNat + 1))
          (p.sp.val.toNat + k / (p.ec.val.toNat - p.sc.val.toNat + 1))) →
        Memory.read q.fm key = Memory.read p.fm key)

/-- A complete fill (R150, an inference the spec marks as its own): if exactly `W*H` pixels follow one
`RAMWR` under a valid window, then `FM[P.SC + i, P.SP + j]` is pixel `j*W + i`, every other pixel is
unchanged, and the cursor is back at the window's first pixel. -/
def Obligations.CompleteFill : Prop :=
  ∀ (cfg : Cfg) (w h : Nat) (p : Panel) (l : List Word16) (W H : Nat), p.undef = false →
    p.armed = true → p.half = none → p.windowOk cfg w h = true → p.cx = p.sc → p.cy = p.sp →
    W = p.ec.val.toNat - p.sc.val.toNat + 1 → H = p.ep.val.toNat - p.sp.val.toNat + 1 →
    l.length = W * H →
    ∃ q, l.foldl (Panel.dataWord cfg w h) p = q ∧ q = { p with fm := q.fm } ∧
      (∀ i j, i < W → j < H →
        Memory.read q.fm (pixelKey (p.sc.val.toNat + i) (p.sp.val.toNat + j)) = l[j * W + i]?) ∧
      (∀ key, (∀ i j, i < W → j < H → key ≠ pixelKey (p.sc.val.toNat + i) (p.sp.val.toNat + j)) →
        Memory.read q.fm key = Memory.read p.fm key)

/-! ## Initialisation (spec 43) -/

/-- CONSTRUCT completes (R155, R165): from `P0`, with a valid bus identifier and 26 successful bus
writes, the trace grows by the 58 events, 26 of them bus writes. -/
def Obligations.ConstructEmits58Events : Prop :=
  ∀ (s : State) (o : Orientation) (bus : Nat), s.cfg.wf → s.busy = false → s.phase = .p0 →
    s.busWidth = .w8 → s.ctorPort.bus = some bus → bus ∉ s.cfg.invalidBuses → s.writesOk 26 →
    ∃ t, exec (.construct o) s = .next t ∧ t.trace = s.trace ++ constructEvents s.cfg o ∧
      (constructEvents s.cfg o).length = 58 ∧ busWrites (constructEvents s.cfg o) = 26 ∧
      t.xfer = s.xfer + 26 ∧ t.phase = .p9 ∧ t.resp = some ⟨.ok, 0⟩

/-- The state after a successful CONSTRUCT (R169, an inference the spec marks as its own), with the
rest of the machine unchanged. -/
def Obligations.ConstructLeavesReadyState : Prop :=
  ∀ (s : State) (o : Orientation) (bus : Nat), s.cfg.wf → s.busy = false → s.phase = .p0 →
    s.busWidth = .w8 → s.ctorPort.bus = some bus → bus ∉ s.cfg.invalidBuses → s.writesOk 26 →
    ∃ t, exec (.construct o) s = .next t ∧
      t = { s with
        phase := .p9, width := t.width, height := t.height, orient := o
        dc := .driven s.cfg.dcCmdLevel, rst := .driven .high, ctor := ⟨s.ctorPort, o⟩
        xfer := s.xfer + 26, trace := t.trace, panel := t.panel, resp := some ⟨.ok, 0⟩ } ∧
      (t.width, t.height) =
        (if o = .portrait ∨ o = .portraitFlipped then (240, 320) else (320, 240)) ∧
      t.panel.cmd = some s.cfg.opcRamwr ∧ t.panel.par = [] ∧ t.panel.armed = true ∧
      t.panel.half = none ∧
      t.panel.sc = .of (parCoord s.cfg.payCasetDefault 0) ∧
      t.panel.ec = .of (parCoord s.cfg.payCasetDefault 1) ∧
      t.panel.sp = .of (parCoord s.cfg.payPasetDefault 0) ∧
      t.panel.ep = .of (parCoord s.cfg.payPasetDefault 1) ∧
      t.panel.cx = t.panel.sc ∧ t.panel.cy = t.panel.sp ∧
      t.panel.madctl = .of (orientByte s.cfg o) ∧ t.panel.pixfmt = .of s.cfg.payPixset ∧
      t.panel.sleeping = false ∧ t.panel.displayOn = true ∧ t.panel.undef = false ∧
      otherGet t.panel.other s.cfg.opcFrmctr = some s.cfg.payFrmctr ∧
      otherGet t.panel.other s.cfg.opcGamset = some s.cfg.payGamset ∧
      otherGet t.panel.other s.cfg.opcEtmod = some s.cfg.payEtmod ∧
      otherGet t.panel.other s.cfg.opcDfunctr = some s.cfg.payDfunctr ∧
      ∀ x y, t.pixel x y = none

/-- E_CONFIG (R226): CONSTRUCT in `P0` with a bus identifier that is missing or invalid emits no event,
changes no state and answers E_CONFIG; a later CONSTRUCT with other tokens at the port is a first
construction, the same as if there had been no earlier one; no other instruction answers E_CONFIG. -/
def Obligations.InvalidBusIsRefused : Prop :=
  (∀ (s : State) (o : Orientation), s.busy = false → s.phase = .p0 →
    (∀ bus, s.ctorPort.bus = some bus → bus ∈ s.cfg.invalidBuses) →
    exec (.construct o) s = .next { s with resp := some ⟨.eConfig, 0⟩ } ∧
    ∀ (k : Tokens) (q : Orientation),
      exec (.construct q) { s with resp := some ⟨.eConfig, 0⟩, ctorPort := k } =
        exec (.construct q) { s with ctorPort := k }) ∧
  (∀ (i : Instr) (s t : State), exec i s = .next t → t.resp = some ⟨.eConfig, 0⟩ →
    t.resp ≠ s.resp → ∃ o, i = .construct o)

/-! ## Orientation and backlight (spec 44) -/

/-- The procedure `orient(o)` and SET_ORIENTATION complete (R175, R177, R178): the new dimensions, the
fourteen events, the register byte and the full-screen window on the panel, every pixel unspecified;
SET_ORIENTATION answers OK. Repeated with the same value, the same fourteen events are emitted again
(R179). -/
def Obligations.OrientationChangeCompletes : Prop :=
  ∀ (s : State) (o : Orientation), s.cfg.wf → s.busWidth = .w8 → s.writesOk 7 →
    (∃ t, exec (.orient o) s = .next t ∧ s.oriented t o ∧ t.resp = s.resp) ∧
    (s.ready →
      ∃ t, exec (.setOrientation o) s = .next t ∧ s.oriented t o ∧ t.resp = some ⟨.ok, 0⟩)

/-- SET_BACKLIGHT (R180): in `P9` it completes with one `Pin(BL, _)` event, at `Cfg.BL_ON_LEVEL` for on
and at the other level for off, the flag set, status OK, and everything else unchanged, the panel and
the frame memory too; in any other phase E_NOTREADY. -/
def Obligations.SetBacklightCompletes : Prop :=
  ∀ (s : State) (on : Bool), s.busy = false →
    (s.phase = .p9 →
      ∃ level, (on = true ↔ level = s.cfg.blOnLevel) ∧
        exec (.setBacklight on) s =
          .next { s with
            bl := .driven level, backlightOn := on, trace := s.trace ++ [.pin .bl level]
            resp := some ⟨.ok, 0⟩ }) ∧
    (s.phase ≠ .p9 → exec (.setBacklight on) s = .next { s with resp := some ⟨.eNotReady, 0⟩ })

/-! ## Rendering (spec 45) -/

/-- DRAW_PIXEL completes for every operand (R185): the fourteen events with the coordinates modulo 65536,
status OK, only the wire changed; with a Color888 it is the same operation on the converted colour
(R101). -/
def Obligations.DrawPixelCompletes : Prop :=
  ∀ (s : State) (x y : Word16) (c : Color565) (k : Color888), s.ready → s.writesOk 6 →
    (∃ t, exec (.drawPixel565 x y c) s = .next t ∧
      s.sent t (pixelEvents s.cfg x.toInt y.toInt c) s.cfg.dcDataLevel ∧ t.resp = some ⟨.ok, 0⟩) ∧
    (∃ t, exec (.drawPixel888 x y k) s = .next t ∧
      s.sent t (pixelEvents s.cfg x.toInt y.toInt (toColor565 k)) s.cfg.dcDataLevel ∧
      t.resp = some ⟨.ok, 0⟩)

/-- The frame-memory effect of DRAW_PIXEL on the screen (R186, an inference the spec marks as its own). -/
def Obligations.DrawPixelWritesItsPixel : Prop :=
  ∀ (s : State) (x y : Word16) (c : Color565), s.cfg.wf → s.ready → s.panelReady → s.writesOk 6 →
    0 ≤ x.toInt → x.toInt < s.width → 0 ≤ y.toInt → y.toInt < s.height →
    ∃ t, exec (.drawPixel565 x y c) s = .next t ∧ t.panel.undef = false ∧
      t.pixel x.toNat y.toNat = some c ∧
      s.pixelsKept t (fun a b => a = x.toNat ∧ b = y.toNat) ∧
      t.panel.windowAt x.toInt x.toInt y.toInt y.toInt x.toInt y.toInt ∧ t.panel.armed = true

/-- DRAW_PIXEL outside the logical screen emits its events all the same, and its pixel sets `P.undef`
(R149, R185); no pixel has a value afterwards. -/
def Obligations.DrawPixelOffScreenUndefines : Prop :=
  ∀ (s : State) (x y : Word16) (c : Color565), s.cfg.wf → s.ready → s.legalScreen → s.writesOk 6 →
    ¬ (0 ≤ x.toInt ∧ x.toInt < s.width ∧ 0 ≤ y.toInt ∧ y.toInt < s.height) →
    ∃ t, exec (.drawPixel565 x y c) s = .next t ∧
      t.trace = s.trace ++ pixelEvents s.cfg x.toInt y.toInt c ∧ t.resp = some ⟨.ok, 0⟩ ∧
      t.panel.undef = true ∧ ∀ a b, t.pixel a b = none

/-- FILL_RECT (R187 to R190): E_CONTRACT with no event if a bound is reversed; else it completes with
`setWindow`, a second memory-write command, and inside the width bracket one batch of `N` words if
`N` is even, `H` batches of `W` words if it is odd. -/
def Obligations.FillRectCompletes : Prop :=
  ∀ (s : State) (l r t b : Word16) (c : Color565), s.ready →
    ((r.toInt < l.toInt ∨ b.toInt < t.toInt) →
      exec (.fillRect l r t b c) s = .next { s with resp := some ⟨.eContract, 0⟩ }) ∧
    (∀ W H : Nat, (W : Int) = r.toInt - l.toInt + 1 → (H : Int) = b.toInt - t.toInt + 1 →
      0 < W → 0 < H → s.writesOk (if W * H % 2 = 0 then 7 else 6 + H) →
      ∃ u, exec (.fillRect l r t b c) s = .next u ∧
        s.sent u (windowEvents s.cfg l.toInt r.toInt t.toInt b.toInt ++
          cmdEvents s.cfg s.cfg.opcRamwr ++ bracketEvents s.cfg (rectBatches W H c))
          s.cfg.dcDataLevel ∧
        u.resp = some ⟨.ok, 0⟩)

/-- The frame-memory effect of FILL_RECT on the screen, the same on both paths (R191, an inference the
spec marks as its own). -/
def Obligations.FillRectFillsItsRectangle : Prop :=
  ∀ (s : State) (l r t b : Word16) (c : Color565) (W H : Nat), s.cfg.wf → s.ready → s.panelReady →
    s.legalScreen → (W : Int) = r.toInt - l.toInt + 1 → (H : Int) = b.toInt - t.toInt + 1 →
    s.writesOk (if W * H % 2 = 0 then 7 else 6 + H) →
    0 ≤ l.toInt → l.toInt ≤ r.toInt → r.toInt < s.width →
    0 ≤ t.toInt → t.toInt ≤ b.toInt → b.toInt < s.height →
    ∃ u, exec (.fillRect l r t b c) s = .next u ∧ u.panel.undef = false ∧
      (∀ x y, l.toNat ≤ x → x ≤ r.toNat → t.toNat ≤ y → y ≤ b.toNat → u.pixel x y = some c) ∧
      s.pixelsKept u (fun x y => l.toNat ≤ x ∧ x ≤ r.toNat ∧ t.toNat ≤ y ∧ y ≤ b.toNat) ∧
      u.panel.windowAt l.toInt r.toInt t.toInt b.toInt l.toInt t.toInt ∧ u.panel.armed = true

/-- The scan of DRAW_CIRCLE (R192): the points are those with `dx*dx + dy*dy <= radius*radius`, none for
a negative radius, each once, columns outer and rows inner, both ascending. -/
def Obligations.DiscScanOrder : Prop :=
  ∀ x0 y0 radius : Int,
    (∀ x y, (x, y) ∈ discPoints x0 y0 radius ↔
      0 ≤ radius ∧ (x - x0) * (x - x0) + (y - y0) * (y - y0) ≤ radius * radius) ∧
    (discPoints x0 y0 radius).Pairwise (fun p q => p.1 < q.1 ∨ p.1 = q.1 ∧ p.2 < q.2)

/-- DRAW_CIRCLE completes for every operand (R192): the events of DRAW_PIXEL for every point of the disc
in scan order, none for a negative radius, status OK, only the wire changed; with a Color888 it is the
same on the converted colour (R101). -/
def Obligations.DrawCircleCompletes : Prop :=
  ∀ (s : State) (x0 y0 radius : Word16) (c : Color565) (k : Color888), s.ready →
    s.writesOk (6 * (discPoints x0.toInt y0.toInt radius.toInt).length) →
    (∃ t, exec (.drawCircle565 x0 y0 radius c) s = .next t ∧ s.onlyWire t ∧
      t.trace = s.trace ++ (discPoints x0.toInt y0.toInt radius.toInt).flatMap
        (fun p => pixelEvents s.cfg p.1 p.2 c) ∧
      t.xfer = s.xfer + 6 * (discPoints x0.toInt y0.toInt radius.toInt).length ∧
      t.resp = some ⟨.ok, 0⟩) ∧
    (∃ t, exec (.drawCircle888 x0 y0 radius k) s = .next t ∧ s.onlyWire t ∧
      t.trace = s.trace ++ (discPoints x0.toInt y0.toInt radius.toInt).flatMap
        (fun p => pixelEvents s.cfg p.1 p.2 (toColor565 k)) ∧
      t.xfer = s.xfer + 6 * (discPoints x0.toInt y0.toInt radius.toInt).length ∧
      t.resp = some ⟨.ok, 0⟩)

/-- The frame-memory effect of DRAW_CIRCLE when the disc lies on the screen (R193, an inference the spec
marks as its own). -/
def Obligations.DrawCircleFillsItsDisc : Prop :=
  ∀ (s : State) (x0 y0 radius : Word16) (c : Color565), s.cfg.wf → s.ready → s.panelReady →
    s.legalScreen → s.writesOk (6 * (discPoints x0.toInt y0.toInt radius.toInt).length) →
    0 ≤ radius.toInt → 0 ≤ x0.toInt - radius.toInt → x0.toInt + radius.toInt < s.width →
    0 ≤ y0.toInt - radius.toInt → y0.toInt + radius.toInt < s.height →
    ∃ t, exec (.drawCircle565 x0 y0 radius c) s = .next t ∧ t.panel.undef = false ∧
      (∀ x y : Nat, ((x : Int) - x0.toInt) * (x - x0.toInt) + (y - y0.toInt) * (y - y0.toInt) ≤
        radius.toInt * radius.toInt → t.pixel x y = some c) ∧
      s.pixelsKept t (fun x y => ((x : Int) - x0.toInt) * (x - x0.toInt) +
        (y - y0.toInt) * (y - y0.toInt) ≤ radius.toInt * radius.toInt) ∧
      t.panel.windowAt (x0.toInt + radius.toInt) (x0.toInt + radius.toInt) y0.toInt y0.toInt
        (x0.toInt + radius.toInt) y0.toInt

/-- FLUSH's early returns (R194, R195, R197): in `P9` a no-op with no event and status OK for a negative
origin, a size that is not positive, or nothing left by the clamp; after those tests E_CONTRACT with no
event for a short buffer; in any other phase E_NOTREADY, also for a no-op. -/
def Obligations.FlushEarlyReturns : Prop :=
  ∀ (s : State) (x y w h : Word16), s.busy = false →
    (s.phase = .p9 →
      (x.toInt < 0 ∨ y.toInt < 0 ∨ w.toInt ≤ 0 ∨ h.toInt ≤ 0 ∨
        (s.width : Int) - x.toInt ≤ 0 ∨ (s.height : Int) - y.toInt ≤ 0) →
      exec (.flush x y w h) s = .next { s with resp := some ⟨.ok, 0⟩ }) ∧
    (s.phase = .p9 →
      (0 ≤ x.toInt ∧ 0 ≤ y.toInt ∧ 0 < w.toInt ∧ 0 < h.toInt ∧
        0 < (s.width : Int) - x.toInt ∧ 0 < (s.height : Int) - y.toInt ∧
        (s.buf.length : Int) < w.toInt * h.toInt) →
      exec (.flush x y w h) s = .next { s with resp := some ⟨.eContract, 0⟩ }) ∧
    (s.phase ≠ .p9 →
      exec (.flush x y w h) s = .next { s with resp := some ⟨.eNotReady, 0⟩ })

/-- FLUSH completes (R194, R195): with `w'`, `h'` the sizes clamped at the screen's edges, `setWindow` of
the clamped window and inside the width bracket all rows in one batch if `w'*h'` is even, one batch a
row if it is odd; the source stride is the unclamped width. -/
def Obligations.FlushCompletes : Prop :=
  ∀ (s : State) (x y w h : Word16) (w' h' : Nat), s.ready →
    0 ≤ x.toInt → 0 ≤ y.toInt → 0 < w.toInt → 0 < h.toInt →
    (w' : Int) = min w.toInt ((s.width : Int) - x.toInt) →
    (h' : Int) = min h.toInt ((s.height : Int) - y.toInt) → 0 < w' → 0 < h' →
    w.toInt * h.toInt ≤ (s.buf.length : Int) →
    s.writesOk (if w' * h' % 2 = 0 then 6 else 5 + h') →
    ∃ t, exec (.flush x y w h) s = .next t ∧
      s.sent t (windowEvents s.cfg x.toInt (x.toInt + w' - 1) y.toInt (y.toInt + h' - 1) ++
        bracketEvents s.cfg
          (if w' * h' % 2 = 0 then [(List.range h').flatMap (blitRow s.buf w.toNat w')]
           else (List.range h').map (blitRow s.buf w.toNat w'))) s.cfg.dcDataLevel ∧
      t.resp = some ⟨.ok, 0⟩

/-- The frame-memory effect of FLUSH, the same on both paths (R196, an inference the spec marks as its
own); addressing never sets `P.undef` (R195). -/
def Obligations.FlushCopiesTheBuffer : Prop :=
  ∀ (s : State) (x y w h : Word16) (w' h' : Nat), s.cfg.wf → s.ready → s.panelReady →
    s.legalScreen → 0 ≤ x.toInt → 0 ≤ y.toInt → 0 < w.toInt → 0 < h.toInt →
    (w' : Int) = min w.toInt ((s.width : Int) - x.toInt) →
    (h' : Int) = min h.toInt ((s.height : Int) - y.toInt) → 0 < w' → 0 < h' →
    w.toInt * h.toInt ≤ (s.buf.length : Int) →
    s.writesOk (if w' * h' % 2 = 0 then 6 else 5 + h') →
    ∃ t, exec (.flush x y w h) s = .next t ∧ t.panel.undef = false ∧
      (∀ i j, i < w' → j < h' → t.pixel (x.toNat + i) (y.toNat + j) = s.buf[j * w.toNat + i]?) ∧
      s.pixelsKept t
        (fun a b => x.toNat ≤ a ∧ a < x.toNat + w' ∧ y.toNat ≤ b ∧ b < y.toNat + h') ∧
      t.panel.windowAt x.toInt (x.toInt + w' - 1) y.toInt (y.toInt + h' - 1) x.toInt y.toInt ∧
      t.panel.armed = true

/-- FILL_SCREEN (R198), and CLEAR_SCREEN with `Cfg.CLEAR_COLOR` (R199), complete with the sixteen events
of FILL_RECT over the full logical screen, one batch of 76800 words; on a panel that is ready to draw
"every pixel of `FM` equals `c`" afterwards. -/
def Obligations.FillScreenPaintsTheScreen : Prop :=
  ∀ (s : State) (c : Color565), s.ready → s.legalScreen → s.writesOk 7 →
    (∃ t, exec (.fillScreen c) s = .next t ∧ s.screenFilled t c) ∧
    (∃ t, exec .clearScreen s = .next t ∧ s.screenFilled t s.cfg.clearColor)

/-- "Every operation except TO_COLOR565 and CONSTRUCT requires `S.phase = P9`; CONSTRUCT requires
`S.phase = P0`. Otherwise: no event, no state change, status `E_NOTREADY`" (R236, R170, R214), and "the
only phases a request can meet are `P0`, `P9` and `FAILED`". -/
def Obligations.NotReadyOutsideItsPhase : Prop :=
  (∀ (i : Instr) (s : State), s.busy = false → s.phase ≠ .p9 →
    (i.format = .req ∧ (∀ c, i ≠ .toColor565 c) ∧ (∀ o, i ≠ .construct o) ∨
      ∃ x y text fg bg, i = .drawString x y text fg bg) →
    exec i s = .next { s with resp := some ⟨.eNotReady, 0⟩ }) ∧
  (∀ (o : Orientation) (s : State), s.busy = false → s.phase ≠ .p0 →
    exec (.construct o) s = .next { s with resp := some ⟨.eNotReady, 0⟩ }) ∧
  (∀ s t : State, step s = .next t → (s.phase = .p0 ∨ s.phase = .p9 ∨ s.phase = .failed) →
    t.phase = .p0 ∨ t.phase = .p9 ∨ t.phase = .failed)

/-! ## Text (spec 46) -/

/-- drawChar (R212): E_CONTRACT with no event for a glyph of non-positive size or too short a bitmap; else
it completes with the fourteen events, one batch of `n` words whatever its parity. That it does so in
every phase, and that it answers OK, is the model's reading (log 15). -/
def Obligations.DrawCharCompletes : Prop :=
  ∀ (s : State) (x y : Int) (fg bg : Color565) (g : Glyph), s.busy = false → s.busWidth = .w8 →
    (¬ glyphDrawable g →
      exec (.drawChar x y fg bg g) s = .next { s with resp := some ⟨.eContract, 0⟩ }) ∧
    (glyphDrawable g → s.writesOk 6 →
      ∃ t, exec (.drawChar x y fg bg g) s = .next t ∧
        s.sent t (charEvents s.cfg x y fg bg g) s.cfg.dcDataLevel ∧ t.resp = some ⟨.ok, 0⟩)

/-- The frame-memory effect of drawChar when the glyph is on the screen: `FM[x + i, y + j]` is pixel
`j*width + i` of the glyph (R212, an inference the spec marks as its own), in every phase (log 15). -/
def Obligations.DrawCharPaintsItsGlyph : Prop :=
  ∀ (s : State) (x y w h : Nat) (fg bg : Color565) (g : Glyph), s.cfg.wf → s.busy = false →
    s.busWidth = .w8 → s.panelReady → s.legalScreen → s.writesOk 6 → glyphDrawable g →
    g.width = w → g.height = h → x + w ≤ s.width → y + h ≤ s.height →
    ∃ t, exec (.drawChar x y fg bg g) s = .next t ∧ t.panel.undef = false ∧
      (∀ i j, i < w → j < h → t.pixel (x + i) (y + j) = some (glyphColor fg bg g (j * w + i))) ∧
      s.pixelsKept t (fun a b => x ≤ a ∧ a < x + w ∧ y ≤ b ∧ b < y + h)

/-- drawString completes (R211, R214): the glyphs are placed as the algorithm of R214 places them, each by
the events of drawChar; the status is OK, or E_CONTRACT at the first character that is absent or
cannot be drawn, the characters before it staying drawn; only the wire changes. -/
def Obligations.DrawStringPlacesGlyphs : Prop :=
  ∀ (s : State) (x y : Int) (text : List Char) (fg bg : Color565) (placed : List Placed)
    (st : Status), s.ready → stringLayout s.width s.font x text x y = (placed, st) →
    s.writesOk (6 * placed.length) →
    ∃ t, exec (.drawString x y text fg bg) s = .next t ∧ s.onlyWire t ∧
      t.trace = s.trace ++ placed.flatMap (fun p => charEvents s.cfg p.x p.y fg bg p.glyph) ∧
      t.xfer = s.xfer + 6 * placed.length ∧ t.resp = some ⟨st, 0⟩

/-- The wrap property of drawString (R216, an inference the spec marks as its own): on a screen of width
`S`, with `x = 0`, no spacing and one glyph size `W` by `H`, drawString completes with the events of
drawChar for character `k` in column `(k mod floor(S/W))*W` of line `k div floor(S/W)`, the lines `H`
apart from row `y`. -/
def Obligations.FixedWidthTextWraps : Prop :=
  ∀ (s : State) (W H : Nat) (y : Int) (text : List Char) (fg bg : Color565) (glyphs : List Glyph),
    s.ready → 0 < W → W ≤ s.width → 0 < H → (∀ ch ∈ text, ch ≠ '\n' ∧ ch ≠ '\r') →
    text.map (lookupGlyph s.font) = glyphs.map some →
    (∀ g ∈ glyphs, g.width = W ∧ g.height = H ∧ g.spacing = 0 ∧ glyphDrawable g) →
    s.writesOk (6 * text.length) →
    ∃ t, exec (.drawString 0 y text fg bg) s = .next t ∧ s.onlyWire t ∧
      t.trace = s.trace ++ glyphs.zipIdx.flatMap (fun gk =>
        charEvents s.cfg ((gk.2 % (s.width / W) : Nat) * W) (y + (gk.2 / (s.width / W) : Nat) * H)
          fg bg gk.1) ∧
      t.xfer = s.xfer + 6 * text.length ∧ t.resp = some ⟨.ok, 0⟩

/-! ## Rules of the whole machine -/

/-- Every step keeps the machine's invariant, whatever the host presents: the frame memory canonical and
on the screen, the lock free between steps, the phase one of `P0`, `P9`, FAILED, a legal logical size
in `P9`, the cursor inside the window while armed. -/
def Obligations.StepKeepsInvariant : Prop :=
  ∀ s t : State, s.Inv → step s = .next t → t.Inv

/-- The invariant holds after reset (with the default parameters, log 1). -/
def Obligations.ResetMeetsInvariant : Prop := State.reset.Inv ∧ State.reset.Settled

/-- Every request and every text operation keeps the bus in 8-bit mode at its boundary, on every exit
path (R27, R129, R231), and keeps the panel ready to draw unless it is undefined. -/
def Obligations.RequestsKeepSettled : Prop :=
  ∀ (i : Instr) (s t : State), s.Settled → (i.format = .req ∨ i.format = .ext) →
    exec i s = .next t → t.Settled

/-- The trace "is never cleared" (R62): every step leaves it as it was or longer, its old part unchanged,
and the transfer count never falls. Every `Write16` event comes "with `S.busWidth = 16`; every `Write8`
event with `S.busWidth = 8`" (R129): so it is of every step's new events, read from the width before
the step, and the width after the step is the one they leave. -/
def Obligations.TraceGrowsByWidthDiscipline : Prop :=
  ∀ s t : State, step s = .next t →
    ∃ es, t.trace = s.trace ++ es ∧ s.xfer ≤ t.xfer ∧ widthDiscipline s.busWidth es = true ∧
      t.busWidth = widthAfter s.busWidth es

/-- "Every `Write8` or `Write16` event is preceded, with no bus write between, by the `Pin(DC, level)`
event that classifies it" (R261), of every instruction but a bare busWrite; a bare busWrite before any
`Pin(DC, _)` event sets `P.undef` (R131; that no such event has come is read from `S.dc`, log 26, and
an empty batch counts, log 22). -/
def Obligations.ModeLineBeforeTransfer : Prop :=
  (∀ (i : Instr) (s t : State), (∀ b, i ≠ .busWrite b) → exec i s = .next t →
    ∃ es, t.trace = s.trace ++ es ∧ modeLineFirst false es = true) ∧
  (∀ (b : Batch) (s : State), s.busWidth = batchWidth b → s.dc = .undriven →
    ∃ t, exec (.busWrite b) s = .next t ∧ t.panel.undef = true)

/-- `FAILED` "has no exit" (R237): once failed, always failed; and in it no request, and no drawString,
emits an event, issues a bus write or changes the panel. The wire frames, the procedures and drawChar
called by name test no phase (log 13, log 14, log 15) and are not spoken of. -/
def Obligations.FailedIsTerminal : Prop :=
  (∀ s t : State, step s = .next t → s.phase = .failed → t.phase = .failed) ∧
  (∀ (i : Instr) (s t : State), s.phase = .failed → exec i s = .next t →
    (i.format = .req ∨ ∃ x y text fg bg, i = .drawString x y text fg bg) →
    t.trace = s.trace ∧ t.xfer = s.xfer ∧ t.panel = s.panel)

/-- `S.phase` is "written only by CONSTRUCT and by a bus failure" (R23): an instruction that changes it is
a CONSTRUCT taking `P0` to `P9`, or it met a failing bus write. -/
def Obligations.PhaseOnlyByConstructOrFailure : Prop :=
  ∀ (i : Instr) (s t : State), exec i s = .next t → t.phase ≠ s.phase →
    (∃ o, i = .construct o) ∧ s.phase = .p0 ∧ t.phase = .p9 ∨
    t.phase = .failed ∧ t.resp = some ⟨.eBus, 0⟩

/-- The frame of every instruction: no instruction writes the configuration, the host's ports, or the
host's moves; the backlight flag and line are written by SET_BACKLIGHT only (R26, R29), the logical
size and orientation by CONSTRUCT, SET_ORIENTATION and `orient` only (R24, R25), the construction
parameters and the reset line by CONSTRUCT only (R30). -/
def Obligations.EngineStateFrame : Prop :=
  ∀ (i : Instr) (s t : State), exec i s = .next t →
    (t.cfg = s.cfg ∧ t.ctorPort = s.ctorPort ∧ t.buf = s.buf ∧ t.font = s.font ∧ t.port = s.port ∧
      t.busFails = s.busFails) ∧
    ((∀ on, i ≠ .setBacklight on) → t.backlightOn = s.backlightOn ∧ t.bl = s.bl) ∧
    ((∀ o, i ≠ .construct o ∧ i ≠ .setOrientation o ∧ i ≠ .orient o) →
      t.width = s.width ∧ t.height = s.height ∧ t.orient = s.orient) ∧
    ((∀ o, i ≠ .construct o) → t.ctor = s.ctor ∧ t.rst = s.rst)

/-- The values of the table of R45 after power-on: those of the engine and of the trace are the spec's
(R45, R256). That the panel has the table's values at power-on already is the model's choice (log 9;
R258 leaves it open, `P.undef` too), its sleep and display bits the family's (log 25), and that an
unspecified pixel has no value is log 4. -/
def Obligations.ResetValues : Prop :=
  State.reset.phase = .p0 ∧ State.reset.backlightOn = false ∧ State.reset.busWidth = .w8 ∧
  State.reset.busy = false ∧ State.reset.dc = .undriven ∧ State.reset.rst = .undriven ∧
  State.reset.bl = .undriven ∧ State.reset.xfer = 0 ∧ State.reset.trace = [] ∧
  State.reset.panel.cmd = none ∧ State.reset.panel.par = [] ∧ State.reset.panel.armed = false ∧
  State.reset.panel.half = none ∧ State.reset.panel.sleeping = true ∧
  State.reset.panel.displayOn = false ∧ State.reset.panel.other = [] ∧
  State.reset.panel.undef = false ∧ State.reset.panel.sc.known = false ∧
  State.reset.panel.ec.known = false ∧ State.reset.panel.sp.known = false ∧
  State.reset.panel.ep.known = false ∧ State.reset.panel.cx.known = false ∧
  State.reset.panel.cy.known = false ∧ State.reset.panel.madctl.known = false ∧
  State.reset.panel.pixfmt.known = false ∧ ∀ x y, State.reset.pixel x y = none
end

