-- ==== Sys2Proof/Laws/Decode.lean ====
section
/-! SUPPORT. The laws of the encodings' parts: the request fields, the big-endian coordinates, the wire
opcodes. -/

namespace Sys2Proof

/-- The fields read from a packed request word are the fields packed. -/
@[simp] theorem unpack_pack (f : ReqFields) : ReqFields.unpack f.pack = f := by
  obtain ⟨op, cf, rs, a0, a1, a2, a3, c⟩ := f
  simp only [ReqFields.unpack, ReqFields.pack, ReqFields.mk.injEq]
  refine ⟨?_, ?_, ?_, ?_, ?_, ?_, ?_, ?_⟩ <;>
  · apply BitVec.eq_of_getLsbD_eq
    intro i hi
    simp only [BitVec.getLsbD_extractLsb', BitVec.getLsbD_append, hi, decide_true, Bool.true_and]
    repeat' split
    all_goals first | omega | (congr 1; omega)

/-- A word is the packing of its fields. -/
theorem pack_unpack (w : BitVec 96) : (ReqFields.unpack w).pack = w := by
  apply BitVec.eq_of_getLsbD_eq
  intro i hi
  simp only [ReqFields.unpack, ReqFields.pack, BitVec.getLsbD_extractLsb', BitVec.getLsbD_append]
  repeat' split
  all_goals (rw [decide_eq_true (by omega), Bool.true_and]; congr 1; omega)

/-- Packing is injective. -/
theorem pack_inj {f g : ReqFields} (h : f.pack = g.pack) : f = g := by
  rw [← unpack_pack f, h, unpack_pack]

/-- Bitwise AND of two packed words goes field by field. -/
theorem pack_and (f g : ReqFields) :
    f.pack &&& g.pack =
      ReqFields.pack ⟨f.op &&& g.op, f.cfmt &&& g.cfmt, f.rsv &&& g.rsv, f.a0 &&& g.a0,
        f.a1 &&& g.a1, f.a2 &&& g.a2, f.a3 &&& g.a3, f.color &&& g.color⟩ := by
  apply BitVec.eq_of_getLsbD_eq
  intro i hi
  simp only [ReqFields.pack, BitVec.getLsbD_and, BitVec.getLsbD_append]
  repeat' split
  all_goals rfl

/-- The panel reassembles a coordinate from its two bytes (R92). -/
@[simp] theorem ofBe16_hi8_lo8 (v : Word16) : ofBe16 (hi8 v) (lo8 v) = v := by
  apply BitVec.eq_of_getLsbD_eq
  intro i hi
  simp only [ofBe16, hi8, lo8, BitVec.getLsbD_append, BitVec.getLsbD_extractLsb']
  split
  · simp [*]
  · rw [decide_eq_true (by omega), Bool.true_and]; congr 1; omega

theorem be16_ofBe16 (b0 b1 : Byte) : be16 (ofBe16 b0 b1) = [b0, b1] := by
  have h0 : hi8 (ofBe16 b0 b1) = b0 := by
    apply BitVec.eq_of_getLsbD_eq
    intro i hi
    simp only [ofBe16, hi8, BitVec.getLsbD_append, BitVec.getLsbD_extractLsb', hi, decide_true,
      Bool.true_and]
    rw [if_neg (by omega)]; congr 1; omega
  have h1 : lo8 (ofBe16 b0 b1) = b1 := by
    apply BitVec.eq_of_getLsbD_eq
    intro i hi
    simp only [ofBe16, lo8, BitVec.getLsbD_append, BitVec.getLsbD_extractLsb', hi, decide_true,
      Bool.true_and]
    rw [if_pos (by omega)]; congr 1; omega
  simp [be16, h0, h1]

@[simp] theorem ofCode_code (o : Orientation) : Orientation.ofCode o.code = o := by
  cases o <;> decide

theorem code_ofCode : ∀ c : BitVec 2, (Orientation.ofCode c).code = c := by decide

/-- Under thirteen distinct opcodes each opcode byte names its own command (R91). -/
theorem command?_opcode (cfg : Cfg) (h : cfg.opcodes.Nodup) (c : WireCmd) :
    cfg.command? (cfg.opcode c) = some c := by
  simp only [Cfg.opcodes, List.nodup_cons, List.mem_cons, List.not_mem_nil, or_false, not_or,
    List.nodup_nil] at h
  cases c <;> simp [Cfg.command?, WireCmd.all, Cfg.opcode, List.find?, h, beq_eq_decide]

/-- A listed opcode byte is the opcode of the command it names. -/
theorem opcode_of_command? (cfg : Cfg) (b : Byte) (c : WireCmd) (h : cfg.command? b = some c) :
    cfg.opcode c = b := by
  simpa using List.find?_some h

end Sys2Proof
end

