-- ==== Sys2Proof/Laws/Memory.lean ====
section
/-! SUPPORT. The laws of the frame memory and of the map P.other: reading what was written, and the
canonical form, which every memory operation keeps. -/

namespace Sys2Proof.Machine

theorem memory_read_write_same (m : List (Nat × Color565)) (k : Nat) (v : Color565) :
    Memory.read (Memory.write m k v) k = some v := by
  induction m with
  | nil => simp [Memory.write, Memory.read]
  | cons e m ih =>
    obtain ⟨k', v'⟩ := e
    by_cases h1 : k < k'
    · simp [Memory.write, h1, Memory.read]
    · by_cases h2 : k = k'
      · simp [Memory.write, h2, Memory.read]
      · simp [Memory.write, h1, h2, Memory.read, ih]

theorem memory_read_write_other (m : List (Nat × Color565)) (k j : Nat) (v : Color565) (h : j ≠ k) :
    Memory.read (Memory.write m k v) j = Memory.read m j := by
  induction m with
  | nil => simp [Memory.write, Memory.read, h]
  | cons e m ih =>
    obtain ⟨k', v'⟩ := e
    by_cases h1 : k < k'
    · simp [Memory.write, h1, Memory.read, h]
    · by_cases h2 : k = k'
      · subst h2; simp [Memory.write, Memory.read, h]
      · simp [Memory.write, h1, h2, Memory.read, ih]

/-- A key of the memory after a write is the key written or was there before. -/
theorem memory_write_keys (m : List (Nat × Color565)) (k : Nat) (v : Color565) (e : Nat × Color565)
    (h : e ∈ Memory.write m k v) : e.1 = k ∨ e ∈ m := by
  induction m with
  | nil => simp [Memory.write] at h; exact .inl (by simp [h])
  | cons d m ih =>
    obtain ⟨k', v'⟩ := d
    unfold Memory.write at h
    split at h
    · rcases List.mem_cons.1 h with h | h
      · exact .inl (by simp [h])
      · exact .inr h
    · split at h
      · rcases List.mem_cons.1 h with h | h
        · exact .inl (by simp [h])
        · exact .inr (List.mem_cons_of_mem _ h)
      · rcases List.mem_cons.1 h with h | h
        · exact .inr (by simp [h])
        · exact (ih h).imp id (List.mem_cons_of_mem _)

theorem memory_wf_nil : Memory.wf [] := List.Pairwise.nil

/-- The frame memory after reset is in canonical form. -/
theorem reset_memory_wf : Memory.wf State.reset.panel.fm := memory_wf_nil

/-- Every memory write keeps the canonical form. -/
theorem memory_write_wf (m : List (Nat × Color565)) (k : Nat) (v : Color565) (h : Memory.wf m) :
    Memory.wf (Memory.write m k v) := by
  induction m with
  | nil => simp [Memory.write, Memory.wf]
  | cons d m ih =>
    obtain ⟨k', v'⟩ := d
    simp only [Memory.wf, List.map_cons, List.pairwise_cons] at h
    obtain ⟨hlow, hm⟩ := h
    unfold Memory.write
    split
    · rename_i hk
      simp only [Memory.wf, List.map_cons, List.pairwise_cons, List.mem_cons]
      refine ⟨?_, hlow, hm⟩
      rintro a (rfl | ha)
      · exact hk
      · exact hk.trans (hlow a ha)
    · split
      · rename_i hk
        simp only [Memory.wf, List.map_cons, List.pairwise_cons]
        exact ⟨fun a ha => hk ▸ hlow a ha, hm⟩
      · rename_i h1 h2
        simp only [Memory.wf, List.map_cons, List.pairwise_cons]
        refine ⟨fun a ha => ?_, ih hm⟩
        obtain ⟨e, he, rfl⟩ := List.mem_map.1 ha
        rcases memory_write_keys m k v e he with h | h
        · omega
        · exact hlow _ (List.mem_map_of_mem h)

theorem other_get_put_same (m : List (Byte × List Byte)) (c : Byte) (v : List Byte) :
    otherGet (otherPut m c v) c = some v := by
  induction m with
  | nil => simp [otherPut, otherGet]
  | cons e m ih =>
    obtain ⟨c', v'⟩ := e
    by_cases h : c = c'
    · simp [otherPut, otherGet, h]
    · simp [otherPut, otherGet, h, ih]

theorem other_get_put_other (m : List (Byte × List Byte)) (c d : Byte) (v : List Byte) (h : d ≠ c) :
    otherGet (otherPut m c v) d = otherGet m d := by
  induction m with
  | nil => simp [otherPut, otherGet, h]
  | cons e m ih =>
    obtain ⟨c', v'⟩ := e
    by_cases h1 : c = c'
    · subst h1; simp [otherPut, otherGet, h]
    · simp [otherPut, otherGet, h1, ih]

/-- Two pixels with 16-bit columns have the same key only if they are the same pixel. -/
theorem pixelKey_inj (x y x' y' : Nat) (hx : x < 65536) (hx' : x' < 65536)
    (h : pixelKey x y = pixelKey x' y') : x = x' ∧ y = y' := by
  unfold pixelKey at h; omega

end Sys2Proof.Machine
end

