-- ==== Sys2Proof/Laws/Panel.lean ====
section
/-! SUPPORT. What the panel receiver can do, once per operation: the frame memory stays canonical, and
`P.undef` is sticky but for a panel reset (spec 41, 42, 10 R43). -/

namespace Sys2Proof.Machine

/-! ## Frame memory -/

@[simp] theorem reset_fm (n : Nat) : (Panel.reset n).fm = [] := rfl
@[simp] theorem reset_undef (n : Nat) : (Panel.reset n).undef = false := rfl
@[simp] theorem undefine_fm (p : Panel) : p.undefine.fm = p.fm := rfl
@[simp] theorem undefine_undef (p : Panel) : p.undefine.undef = true := rfl
@[simp] theorem setCursor_fm (p : Panel) : p.setCursor.fm = p.fm := rfl
@[simp] theorem setCursor_undef (p : Panel) : p.setCursor.undef = p.undef := rfl
@[simp] theorem beginCommand_fm (cfg : Cfg) (b : Byte) (p : Panel) : (p.beginCommand cfg b).fm = p.fm := rfl

@[simp] theorem advance_fm (p : Panel) : p.advance.fm = p.fm := by
  unfold Panel.advance; split
  · rfl
  · split <;> rfl

@[simp] theorem advance_undef (p : Panel) : p.advance.undef = p.undef := by
  unfold Panel.advance; split
  · rfl
  · split <;> rfl

/-- A command byte leaves the frame memory as it is, or resets the panel. -/
theorem commandByte_fm (cfg : Cfg) (n : Nat) (p : Panel) (b : Byte) :
    (p.commandByte cfg n b).fm = p.fm ∨ p.commandByte cfg n b = Panel.reset n := by
  simp only [Panel.commandByte]
  split <;> first | exact .inl rfl | exact .inr rfl

/-- A latched command leaves the frame memory as it is, or forgets it (R178). -/
theorem latch_fm (p : Panel) (b : Byte) (par : List Byte) (c : WireCmd) :
    (p.latch b par c).fm = p.fm ∨ (p.latch b par c).fm = [] := by
  cases c <;> first | exact .inl rfl | exact .inr rfl

@[simp] theorem latch_undef (p : Panel) (b : Byte) (par : List Byte) (c : WireCmd) :
    (p.latch b par c).undef = p.undef := by
  cases c <;> rfl

/-- A parameter byte leaves the frame memory as it is, or forgets it. -/
theorem parameterByte_fm (cfg : Cfg) (p : Panel) (b : Byte) :
    (p.parameterByte cfg b).fm = p.fm ∨ (p.parameterByte cfg b).fm = [] := by
  simp only [Panel.parameterByte]
  split
  · exact .inl rfl
  · split
    · exact .inl rfl
    · split
      · exact .inl rfl
      · split
        · exact latch_fm _ _ _ _
        · exact .inl rfl

/-- What a pixel does: nothing, one write at the cursor under a valid window, or `P.undef` (R148,
R149). -/
theorem writePixel_cases (cfg : Cfg) (w h : Nat) (p : Panel) (c : Color565) :
    (p.undef = true ∧ p.writePixel cfg w h c = p) ∨
    (p.undef = false ∧ p.windowOk cfg w h = true ∧
      p.writePixel cfg w h c =
        Panel.advance { p with fm := Memory.write p.fm (pixelKey p.cx.val.toNat p.cy.val.toNat) c }) ∨
    (p.undef = false ∧ p.windowOk cfg w h = false ∧
      p.writePixel cfg w h c = { p with undef := true }) := by
  unfold Panel.writePixel
  cases hu : p.undef
  · cases hw : p.windowOk cfg w h <;> simp
  · simp

theorem writePixel_fm_wf (cfg : Cfg) (w h : Nat) (p : Panel) (c : Color565) (hp : Memory.wf p.fm) :
    Memory.wf (p.writePixel cfg w h c).fm := by
  rcases writePixel_cases cfg w h p c with ⟨_, e⟩ | ⟨_, _, e⟩ | ⟨_, _, e⟩ <;> rw [e]
  · exact hp
  · simpa using memory_write_wf _ _ _ hp
  · exact hp

theorem commandByte_fm_wf (cfg : Cfg) (n : Nat) (p : Panel) (b : Byte) (hp : Memory.wf p.fm) :
    Memory.wf (p.commandByte cfg n b).fm := by
  rcases commandByte_fm cfg n p b with e | e <;> rw [e]
  · exact hp
  · exact memory_wf_nil

theorem dataByte_fm_wf (cfg : Cfg) (w h : Nat) (p : Panel) (b : Byte) (hp : Memory.wf p.fm) :
    Memory.wf (p.dataByte cfg w h b).fm := by
  unfold Panel.dataByte
  split
  · split
    · exact hp
    · exact writePixel_fm_wf _ _ _ _ _ hp
  · rcases parameterByte_fm cfg p b with e | e <;> rw [e]
    · exact hp
    · exact memory_wf_nil

theorem dataWord_fm_wf (cfg : Cfg) (w h : Nat) (p : Panel) (c : Word16) (hp : Memory.wf p.fm) :
    Memory.wf (p.dataWord cfg w h c).fm := by
  unfold Panel.dataWord
  split
  · split
    · exact writePixel_fm_wf _ _ _ _ _ hp
    · exact hp
  · exact hp

/-- A property every unit keeps is kept by a batch. -/
theorem foldl_keeps {α : Type} (Q : Panel → Prop) (f : Panel → α → Panel)
    (hf : ∀ p a, Q p → Q (f p a)) (l : List α) (p : Panel) (hp : Q p) : Q (l.foldl f p) := by
  induction l generalizing p with
  | nil => exact hp
  | cons a l ih => exact ih _ (hf p a hp)

/-- Every event keeps the canonical form of the frame memory. -/
theorem receive_fm_wf (cfg : Cfg) (dc : Drive) (w h n : Nat) (e : Event) (p : Panel)
    (hp : Memory.wf p.fm) : Memory.wf (p.receive cfg dc w h n e).fm := by
  rcases e with ⟨l, v⟩ | _ | l | l | _
  · cases l <;> cases v <;> first | exact hp | exact memory_wf_nil
  · exact hp
  · simp only [Panel.receive]
    split
    · exact hp
    · exact foldl_keeps (fun p => Memory.wf p.fm) _ (fun p b h => commandByte_fm_wf cfg n p b h) l p hp
    · exact foldl_keeps (fun p => Memory.wf p.fm) _ (fun p b h' => dataByte_fm_wf cfg w h p b h') l p hp
  · simp only [Panel.receive]
    split
    · exact hp
    · exact foldl_keeps (fun p => Memory.wf p.fm) (fun q _ => q.undefine) (fun p _ h => h) l p hp
    · exact foldl_keeps (fun p => Memory.wf p.fm) _ (fun p b h' => dataWord_fm_wf cfg w h p b h') l p hp
  · exact hp

/-! ## The sticky bit -/

/-- A command byte clears `P.undef` only by resetting the panel (R43, R132). -/
theorem commandByte_undef (cfg : Cfg) (n : Nat) (p : Panel) (b : Byte) (hp : p.undef = true) :
    (p.commandByte cfg n b).undef = true ∨
      (cfg.command? b = some .swreset ∧ p.commandByte cfg n b = Panel.reset n) := by
  have hb : (p.beginCommand cfg b).undef = true := by simp [Panel.beginCommand, hp]
  simp only [Panel.commandByte]
  split <;> first | exact .inr ⟨‹_›, rfl⟩ | exact .inl hb | exact .inl rfl

theorem writePixel_undef (cfg : Cfg) (w h : Nat) (p : Panel) (c : Color565) (hp : p.undef = true) :
    (p.writePixel cfg w h c).undef = true := by
  simp [Panel.writePixel, hp]

theorem dataByte_undef (cfg : Cfg) (w h : Nat) (p : Panel) (b : Byte) (hp : p.undef = true) :
    (p.dataByte cfg w h b).undef = true := by
  unfold Panel.dataByte
  split
  · split
    · exact hp
    · exact writePixel_undef _ _ _ _ _ hp
  · simp only [Panel.parameterByte]
    split
    · rfl
    · split
      · exact hp
      · split
        · rfl
        · split
          · rw [latch_undef]; exact hp
          · exact hp

theorem dataWord_undef (cfg : Cfg) (w h : Nat) (p : Panel) (c : Word16) (hp : p.undef = true) :
    (p.dataWord cfg w h c).undef = true := by
  unfold Panel.dataWord
  split
  · split
    · exact writePixel_undef _ _ _ _ _ hp
    · rfl
  · rfl

end Sys2Proof.Machine
end

