-- ==== Sys2Proof/Laws/PerInstr.lean ====
section
/-! SUPPORT. Statements about every instruction as syntax, one lemma per constructor. Family `OwnRow`:
the encoding of an instruction lies in its own row of spec/opcode_table.json (spec 30 R91, R103). -/

namespace Sys2Proof.Laws.OwnRow

/-- A request word the encoder gives for `i` is selected by the row with the mnemonic of `i` (R103); a
frame it gives begins with the opcode of the wire command with that mnemonic (R91). -/
def Statement (i : Instr) : Prop :=
  ∀ cfg : Cfg,
    (∀ w, encode cfg i = .request w →
      ∃ r ∈ requestRows, r.mnemonic = i.mnemonic ∧ w &&& r.mask = r.pat) ∧
    (∀ bytes, encode cfg i = .frame bytes →
      ∃ c : WireCmd, c.mnemonic = i.mnemonic ∧ bytes.head? = some (cfg.opcode c))

/-- A Color565 in `color[15:0]` leaves `color[23:16]` zero. -/
theorem color_high (c : Color565) : c.setWidth 24 &&& 0xFF0000#24 = 0#24 := by
  apply BitVec.eq_of_getLsbD_eq
  intro i hi
  have h : ∀ j < 24, j < 16 → (0xFF0000#24).getLsbD j = false := by decide
  simp only [BitVec.getLsbD_and, BitVec.getLsbD_setWidth, hi, decide_true, Bool.true_and,
    BitVec.getLsbD_zero]
  by_cases h16 : i < 16
  · rw [h i hi h16, Bool.and_false]
  · rw [BitVec.getLsbD_of_ge c i (by omega), Bool.false_and]

/-- A REQ row that a packed word matches field by field selects it. -/
theorem row_of_fields (f m t : ReqFields) (w mask pat : BitVec 96) (hw : w = f.pack)
    (hm : mask = m.pack) (ht : pat = t.pack)
    (h : (⟨f.op &&& m.op, f.cfmt &&& m.cfmt, f.rsv &&& m.rsv, f.a0 &&& m.a0, f.a1 &&& m.a1,
      f.a2 &&& m.a2, f.a3 &&& m.a3, f.color &&& m.color⟩ : ReqFields) = t) :
    w &&& mask = pat := by
  rw [hw, hm, ht, pack_and, h]

/-- An instruction that is encoded as a frame of its own command. -/
theorem of_frame (i : Instr) (c : WireCmd) (params : Cfg → List Byte) (hn : c.mnemonic = i.mnemonic)
    (h : ∀ cfg, encode cfg i = .frame (cfg.opcode c :: params cfg)) : Statement i := by
  intro cfg
  rw [h cfg]
  refine ⟨?_, ?_⟩
  · intro w hw; cases hw
  · intro bytes hb; cases hb; exact ⟨c, hn, rfl⟩

/-- An instruction that is encoded as a request word of its own row. -/
theorem of_request (i : Instr) (r : TableRow) (w : BitVec 96) (hr : r ∈ requestRows)
    (hn : r.mnemonic = i.mnemonic) (h : ∀ cfg, encode cfg i = .request w)
    (hw : w &&& r.mask = r.pat) : Statement i := by
  intro cfg
  rw [h cfg]
  refine ⟨?_, ?_⟩
  · intro w' hw'; cases hw'; exact ⟨r, hr, hn, hw⟩
  · intro bytes hb; cases hb

/-- An instruction without an encoding. -/
theorem of_call (i : Instr) (h : ∀ cfg, encode cfg i = .call i) : Statement i := by
  intro cfg
  rw [h cfg]
  exact ⟨fun w hw => (by cases hw), fun bytes hb => (by cases hb)⟩

theorem swreset : Statement (.swreset) :=
  of_frame _ .swreset (fun _ => []) rfl (fun _ => rfl)

theorem slpout : Statement (.slpout) :=
  of_frame _ .slpout (fun _ => []) rfl (fun _ => rfl)

theorem gamset (p : List Byte) : Statement (.gamset p) :=
  of_frame _ .gamset (fun _ => p) rfl (fun _ => rfl)

theorem dispoff : Statement (.dispoff) :=
  of_frame _ .dispoff (fun _ => []) rfl (fun _ => rfl)

theorem dispon : Statement (.dispon) :=
  of_frame _ .dispon (fun _ => []) rfl (fun _ => rfl)

theorem caset (l r : Word16) : Statement (.caset l r) :=
  of_frame _ .caset (fun _ => be16 l ++ be16 r) rfl (fun _ => rfl)

theorem paset (t b : Word16) : Statement (.paset t b) :=
  of_frame _ .paset (fun _ => be16 t ++ be16 b) rfl (fun _ => rfl)

theorem ramwr : Statement (.ramwr) :=
  of_frame _ .ramwr (fun _ => []) rfl (fun _ => rfl)

theorem madctl (b : Byte) : Statement (.madctl b) :=
  of_frame _ .madctl (fun _ => [b]) rfl (fun _ => rfl)

theorem pixset (p : List Byte) : Statement (.pixset p) :=
  of_frame _ .pixset (fun _ => p) rfl (fun _ => rfl)

theorem frmctr (p : List Byte) : Statement (.frmctr p) :=
  of_frame _ .frmctr (fun _ => p) rfl (fun _ => rfl)

theorem dfunctr (p : List Byte) : Statement (.dfunctr p) :=
  of_frame _ .dfunctr (fun _ => p) rfl (fun _ => rfl)

theorem etmod (p : List Byte) : Statement (.etmod p) :=
  of_frame _ .etmod (fun _ => p) rfl (fun _ => rfl)

theorem construct (o : Orientation) : Statement (.construct o) :=
  of_request _ ⟨"CONSTRUCT", 0x000000000000000000000000, 0xFFFFFCFFFFFFFFFFFFFFFFFF⟩
    _ (by decide) rfl (fun _ => rfl) (by cases o <;> decide)

theorem setOrientation (o : Orientation) : Statement (.setOrientation o) :=
  of_request _ ⟨"SET_ORIENTATION", 0x100000000000000000000000, 0xFFFFFCFFFFFFFFFFFFFFFFFF⟩
    _ (by decide) rfl (fun _ => rfl) (by cases o <;> decide)

theorem setBacklight (on : Bool) : Statement (.setBacklight on) :=
  of_request _ ⟨"SET_BACKLIGHT", 0x200000000000000000000000, 0xFFFFFEFFFFFFFFFFFFFFFFFF⟩
    _ (by decide) rfl (fun _ => rfl) (by cases on <;> decide)

theorem toColor565 (c : Color888) : Statement (.toColor565 c) :=
  of_request _ ⟨"TO_COLOR565", 0x380000000000000000000000, 0xFFFFFFFFFFFFFFFFFF000000⟩
    _ (by decide) rfl (fun _ => rfl) (row_of_fields ⟨0x3, 1, 0, 0, 0, 0, 0, c⟩
    ⟨0xf, 1, 7, 0xffff, 0xffff, 0xffff, 0xffff, 0⟩ ⟨3, 1, 0, 0, 0, 0, 0, 0⟩ _ _ _ rfl (by decide) (by decide) (by simp))

theorem drawPixel565 (x y : Word16) (c : Color565) : Statement (.drawPixel565 x y c) :=
  of_request _ ⟨"DRAW_PIXEL_565", 0x400000000000000000000000, 0xFF00000000FFFFFFFFFF0000⟩
    _ (by decide) rfl (fun _ => rfl) (row_of_fields ⟨0x4, 0, 0, x, y, 0, 0, c.setWidth 24⟩
    ⟨0xf, 1, 7, 0, 0, 0xffff, 0xffff, 0xff0000⟩ ⟨4, 0, 0, 0, 0, 0, 0, 0⟩ _ _ _ rfl (by decide) (by decide) (by simp [color_high]))

theorem drawPixel888 (x y : Word16) (c : Color888) : Statement (.drawPixel888 x y c) :=
  of_request _ ⟨"DRAW_PIXEL_888", 0x480000000000000000000000, 0xFF00000000FFFFFFFF000000⟩
    _ (by decide) rfl (fun _ => rfl) (row_of_fields ⟨0x4, 1, 0, x, y, 0, 0, c⟩
    ⟨0xf, 1, 7, 0, 0, 0xffff, 0xffff, 0⟩ ⟨4, 1, 0, 0, 0, 0, 0, 0⟩ _ _ _ rfl (by decide) (by decide) (by simp))

theorem fillRect (l r t b : Word16) (c : Color565) : Statement (.fillRect l r t b c) :=
  of_request _ ⟨"FILL_RECT", 0x500000000000000000000000, 0xFF0000000000000000FF0000⟩
    _ (by decide) rfl (fun _ => rfl) (row_of_fields ⟨0x5, 0, 0, l, r, t, b, c.setWidth 24⟩
    ⟨0xf, 1, 7, 0, 0, 0, 0, 0xff0000⟩ ⟨5, 0, 0, 0, 0, 0, 0, 0⟩ _ _ _ rfl (by decide) (by decide) (by simp [color_high]))

theorem drawCircle565 (x y r : Word16) (c : Color565) : Statement (.drawCircle565 x y r c) :=
  of_request _ ⟨"DRAW_CIRCLE_565", 0x600000000000000000000000, 0xFF000000000000FFFFFF0000⟩
    _ (by decide) rfl (fun _ => rfl) (row_of_fields ⟨0x6, 0, 0, x, y, r, 0, c.setWidth 24⟩
    ⟨0xf, 1, 7, 0, 0, 0, 0xffff, 0xff0000⟩ ⟨6, 0, 0, 0, 0, 0, 0, 0⟩ _ _ _ rfl (by decide) (by decide) (by simp [color_high]))

theorem drawCircle888 (x y r : Word16) (c : Color888) : Statement (.drawCircle888 x y r c) :=
  of_request _ ⟨"DRAW_CIRCLE_888", 0x680000000000000000000000, 0xFF000000000000FFFF000000⟩
    _ (by decide) rfl (fun _ => rfl) (row_of_fields ⟨0x6, 1, 0, x, y, r, 0, c⟩
    ⟨0xf, 1, 7, 0, 0, 0, 0xffff, 0⟩ ⟨6, 1, 0, 0, 0, 0, 0, 0⟩ _ _ _ rfl (by decide) (by decide) (by simp))

theorem flush (x y w h : Word16) : Statement (.flush x y w h) :=
  of_request _ ⟨"FLUSH", 0x700000000000000000000000, 0xFF0000000000000000FFFFFF⟩
    _ (by decide) rfl (fun _ => rfl) (row_of_fields ⟨0x7, 0, 0, x, y, w, h, 0⟩
    ⟨0xf, 1, 7, 0, 0, 0, 0, 0xffffff⟩ ⟨7, 0, 0, 0, 0, 0, 0, 0⟩ _ _ _ rfl (by decide) (by decide) (by simp))

theorem clearScreen : Statement (.clearScreen) :=
  of_request _ ⟨"CLEAR_SCREEN", 0x800000000000000000000000, 0xFFFFFFFFFFFFFFFFFFFFFFFF⟩
    _ (by decide) rfl (fun _ => rfl) (by decide)

theorem fillScreen (c : Color565) : Statement (.fillScreen c) :=
  of_request _ ⟨"FILL_SCREEN", 0x900000000000000000000000, 0xFFFFFFFFFFFFFFFFFFFF0000⟩
    _ (by decide) rfl (fun _ => rfl) (row_of_fields ⟨0x9, 0, 0, 0, 0, 0, 0, c.setWidth 24⟩
    ⟨0xf, 1, 7, 0xffff, 0xffff, 0xffff, 0xffff, 0xff0000⟩ ⟨9, 0, 0, 0, 0, 0, 0, 0⟩ _ _ _ rfl (by decide) (by decide) (by simp [color_high]))

theorem sendCommand (b : Byte) : Statement (.sendCommand b) :=
  of_call _ (fun _ => rfl)

theorem sendData8 (l : List Byte) : Statement (.sendData8 l) :=
  of_call _ (fun _ => rfl)

theorem sendData16 (l : List Word16) : Statement (.sendData16 l) :=
  of_call _ (fun _ => rfl)

theorem setBusWidth (w : BusWidth) : Statement (.setBusWidth w) :=
  of_call _ (fun _ => rfl)

theorem busWrite (ev : Batch) : Statement (.busWrite ev) :=
  of_call _ (fun _ => rfl)

theorem setWindow (l r t b : Int) : Statement (.setWindow l r t b) :=
  of_call _ (fun _ => rfl)

theorem orient (o : Orientation) : Statement (.orient o) :=
  of_call _ (fun _ => rfl)

theorem drawChar (x y : Int) (fg bg : Color565) (g : Glyph) : Statement (.drawChar x y fg bg g) :=
  of_call _ (fun _ => rfl)

theorem drawString (x y : Int) (text : List Char) (fg bg : Color565) : Statement (.drawString x y text fg bg) :=
  of_call _ (fun _ => rfl)

end Sys2Proof.Laws.OwnRow
end

