-- ==== Sys2Proof/Laws/State.lean ====
section
/-! SUPPORT. The small lemmas of every state update: one per field per update, so that no later proof
unfolds a record update. -/

namespace Sys2Proof.Machine

/-! ## emit -/

@[simp] theorem emit_cfg (e : Event) (s : State) : (emit e s).cfg = s.cfg := by
  rcases e with ⟨l, _⟩ | _ | _ | _ | _ <;> [cases l; skip; skip; skip; skip] <;> rfl

@[simp] theorem emit_phase (e : Event) (s : State) : (emit e s).phase = s.phase := by
  rcases e with ⟨l, _⟩ | _ | _ | _ | _ <;> [cases l; skip; skip; skip; skip] <;> rfl

@[simp] theorem emit_width (e : Event) (s : State) : (emit e s).width = s.width := by
  rcases e with ⟨l, _⟩ | _ | _ | _ | _ <;> [cases l; skip; skip; skip; skip] <;> rfl

@[simp] theorem emit_height (e : Event) (s : State) : (emit e s).height = s.height := by
  rcases e with ⟨l, _⟩ | _ | _ | _ | _ <;> [cases l; skip; skip; skip; skip] <;> rfl

@[simp] theorem emit_orient (e : Event) (s : State) : (emit e s).orient = s.orient := by
  rcases e with ⟨l, _⟩ | _ | _ | _ | _ <;> [cases l; skip; skip; skip; skip] <;> rfl

@[simp] theorem emit_backlightOn (e : Event) (s : State) : (emit e s).backlightOn = s.backlightOn := by
  rcases e with ⟨l, _⟩ | _ | _ | _ | _ <;> [cases l; skip; skip; skip; skip] <;> rfl

@[simp] theorem emit_busWidth (e : Event) (s : State) : (emit e s).busWidth = s.busWidth := by
  rcases e with ⟨l, _⟩ | _ | _ | _ | _ <;> [cases l; skip; skip; skip; skip] <;> rfl

@[simp] theorem emit_busy (e : Event) (s : State) : (emit e s).busy = s.busy := by
  rcases e with ⟨l, _⟩ | _ | _ | _ | _ <;> [cases l; skip; skip; skip; skip] <;> rfl

@[simp] theorem emit_ctor (e : Event) (s : State) : (emit e s).ctor = s.ctor := by
  rcases e with ⟨l, _⟩ | _ | _ | _ | _ <;> [cases l; skip; skip; skip; skip] <;> rfl

@[simp] theorem emit_xfer (e : Event) (s : State) : (emit e s).xfer = s.xfer := by
  rcases e with ⟨l, _⟩ | _ | _ | _ | _ <;> [cases l; skip; skip; skip; skip] <;> rfl

@[simp] theorem emit_trace (e : Event) (s : State) : (emit e s).trace = s.trace ++ [e] := by
  rcases e with ⟨l, _⟩ | _ | _ | _ | _ <;> [cases l; skip; skip; skip; skip] <;> rfl

@[simp] theorem emit_panel (e : Event) (s : State) :
    (emit e s).panel = s.panel.receive s.cfg s.dc s.width s.height s.trace.length e := by
  rcases e with ⟨l, _⟩ | _ | _ | _ | _ <;> [cases l; skip; skip; skip; skip] <;> rfl

@[simp] theorem emit_ctorPort (e : Event) (s : State) : (emit e s).ctorPort = s.ctorPort := by
  rcases e with ⟨l, _⟩ | _ | _ | _ | _ <;> [cases l; skip; skip; skip; skip] <;> rfl

@[simp] theorem emit_buf (e : Event) (s : State) : (emit e s).buf = s.buf := by
  rcases e with ⟨l, _⟩ | _ | _ | _ | _ <;> [cases l; skip; skip; skip; skip] <;> rfl

@[simp] theorem emit_font (e : Event) (s : State) : (emit e s).font = s.font := by
  rcases e with ⟨l, _⟩ | _ | _ | _ | _ <;> [cases l; skip; skip; skip; skip] <;> rfl

@[simp] theorem emit_resp (e : Event) (s : State) : (emit e s).resp = s.resp := by
  rcases e with ⟨l, _⟩ | _ | _ | _ | _ <;> [cases l; skip; skip; skip; skip] <;> rfl

@[simp] theorem emit_port (e : Event) (s : State) : (emit e s).port = s.port := by
  rcases e with ⟨l, _⟩ | _ | _ | _ | _ <;> [cases l; skip; skip; skip; skip] <;> rfl

@[simp] theorem emit_busFails (e : Event) (s : State) : (emit e s).busFails = s.busFails := by
  rcases e with ⟨l, _⟩ | _ | _ | _ | _ <;> [cases l; skip; skip; skip; skip] <;> rfl

@[simp] theorem emit_pin_dc_dc (v : Level) (s : State) : (emit (.pin .dc v) s).dc = .driven v := rfl

@[simp] theorem emit_pin_dc_rst (v : Level) (s : State) : (emit (.pin .dc v) s).rst = s.rst := rfl

@[simp] theorem emit_pin_dc_bl (v : Level) (s : State) : (emit (.pin .dc v) s).bl = s.bl := rfl

@[simp] theorem emit_pin_rst_dc (v : Level) (s : State) : (emit (.pin .rst v) s).dc = s.dc := rfl

@[simp] theorem emit_pin_rst_rst (v : Level) (s : State) : (emit (.pin .rst v) s).rst = .driven v := rfl

@[simp] theorem emit_pin_rst_bl (v : Level) (s : State) : (emit (.pin .rst v) s).bl = s.bl := rfl

@[simp] theorem emit_pin_bl_dc (v : Level) (s : State) : (emit (.pin .bl v) s).dc = s.dc := rfl

@[simp] theorem emit_pin_bl_rst (v : Level) (s : State) : (emit (.pin .bl v) s).rst = s.rst := rfl

@[simp] theorem emit_pin_bl_bl (v : Level) (s : State) : (emit (.pin .bl v) s).bl = .driven v := rfl

@[simp] theorem emit_busWidth_dc (w : BusWidth) (s : State) : (emit (.busWidth w) s).dc = s.dc := rfl

@[simp] theorem emit_busWidth_rst (w : BusWidth) (s : State) : (emit (.busWidth w) s).rst = s.rst := rfl

@[simp] theorem emit_busWidth_bl (w : BusWidth) (s : State) : (emit (.busWidth w) s).bl = s.bl := rfl

@[simp] theorem emit_write8_dc (l : List Byte) (s : State) : (emit (.write8 l) s).dc = s.dc := rfl

@[simp] theorem emit_write8_rst (l : List Byte) (s : State) : (emit (.write8 l) s).rst = s.rst := rfl

@[simp] theorem emit_write8_bl (l : List Byte) (s : State) : (emit (.write8 l) s).bl = s.bl := rfl

@[simp] theorem emit_write16_dc (l : List Word16) (s : State) : (emit (.write16 l) s).dc = s.dc := rfl

@[simp] theorem emit_write16_rst (l : List Word16) (s : State) : (emit (.write16 l) s).rst = s.rst := rfl

@[simp] theorem emit_write16_bl (l : List Word16) (s : State) : (emit (.write16 l) s).bl = s.bl := rfl

@[simp] theorem emit_delay_dc (ms : Nat) (s : State) : (emit (.delay ms) s).dc = s.dc := rfl

@[simp] theorem emit_delay_rst (ms : Nat) (s : State) : (emit (.delay ms) s).rst = s.rst := rfl

@[simp] theorem emit_delay_bl (ms : Nat) (s : State) : (emit (.delay ms) s).bl = s.bl := rfl

/-! ## setWidth -/

@[simp] theorem setWidth_cfg (w : BusWidth) (s : State) : (setWidth w s).cfg = s.cfg := rfl

@[simp] theorem setWidth_phase (w : BusWidth) (s : State) : (setWidth w s).phase = s.phase := rfl

@[simp] theorem setWidth_width (w : BusWidth) (s : State) : (setWidth w s).width = s.width := rfl

@[simp] theorem setWidth_height (w : BusWidth) (s : State) : (setWidth w s).height = s.height := rfl

@[simp] theorem setWidth_orient (w : BusWidth) (s : State) : (setWidth w s).orient = s.orient := rfl

@[simp] theorem setWidth_backlightOn (w : BusWidth) (s : State) : (setWidth w s).backlightOn = s.backlightOn := rfl

@[simp] theorem setWidth_busWidth (w : BusWidth) (s : State) : (setWidth w s).busWidth = w := rfl

@[simp] theorem setWidth_busy (w : BusWidth) (s : State) : (setWidth w s).busy = s.busy := rfl

@[simp] theorem setWidth_dc (w : BusWidth) (s : State) : (setWidth w s).dc = s.dc := rfl

@[simp] theorem setWidth_rst (w : BusWidth) (s : State) : (setWidth w s).rst = s.rst := rfl

@[simp] theorem setWidth_bl (w : BusWidth) (s : State) : (setWidth w s).bl = s.bl := rfl

@[simp] theorem setWidth_ctor (w : BusWidth) (s : State) : (setWidth w s).ctor = s.ctor := rfl

@[simp] theorem setWidth_xfer (w : BusWidth) (s : State) : (setWidth w s).xfer = s.xfer := rfl

@[simp] theorem setWidth_trace (w : BusWidth) (s : State) : (setWidth w s).trace = s.trace ++ [.busWidth w] := rfl

@[simp] theorem setWidth_panel (w : BusWidth) (s : State) : (setWidth w s).panel = s.panel := rfl

@[simp] theorem setWidth_ctorPort (w : BusWidth) (s : State) : (setWidth w s).ctorPort = s.ctorPort := rfl

@[simp] theorem setWidth_buf (w : BusWidth) (s : State) : (setWidth w s).buf = s.buf := rfl

@[simp] theorem setWidth_font (w : BusWidth) (s : State) : (setWidth w s).font = s.font := rfl

@[simp] theorem setWidth_resp (w : BusWidth) (s : State) : (setWidth w s).resp = s.resp := rfl

@[simp] theorem setWidth_port (w : BusWidth) (s : State) : (setWidth w s).port = s.port := rfl

@[simp] theorem setWidth_busFails (w : BusWidth) (s : State) : (setWidth w s).busFails = s.busFails := rfl

/-! ## setScreen -/

@[simp] theorem setScreen_cfg (o : Orientation) (s : State) : (setScreen o s).cfg = s.cfg := rfl

@[simp] theorem setScreen_phase (o : Orientation) (s : State) : (setScreen o s).phase = s.phase := rfl

@[simp] theorem setScreen_width (o : Orientation) (s : State) : (setScreen o s).width = screenWidth o := rfl

@[simp] theorem setScreen_height (o : Orientation) (s : State) : (setScreen o s).height = screenHeight o := rfl

@[simp] theorem setScreen_orient (o : Orientation) (s : State) : (setScreen o s).orient = o := rfl

@[simp] theorem setScreen_backlightOn (o : Orientation) (s : State) : (setScreen o s).backlightOn = s.backlightOn := rfl

@[simp] theorem setScreen_busWidth (o : Orientation) (s : State) : (setScreen o s).busWidth = s.busWidth := rfl

@[simp] theorem setScreen_busy (o : Orientation) (s : State) : (setScreen o s).busy = s.busy := rfl

@[simp] theorem setScreen_dc (o : Orientation) (s : State) : (setScreen o s).dc = s.dc := rfl

@[simp] theorem setScreen_rst (o : Orientation) (s : State) : (setScreen o s).rst = s.rst := rfl

@[simp] theorem setScreen_bl (o : Orientation) (s : State) : (setScreen o s).bl = s.bl := rfl

@[simp] theorem setScreen_ctor (o : Orientation) (s : State) : (setScreen o s).ctor = s.ctor := rfl

@[simp] theorem setScreen_xfer (o : Orientation) (s : State) : (setScreen o s).xfer = s.xfer := rfl

@[simp] theorem setScreen_trace (o : Orientation) (s : State) : (setScreen o s).trace = s.trace := rfl

@[simp] theorem setScreen_panel (o : Orientation) (s : State) : (setScreen o s).panel = s.panel := rfl

@[simp] theorem setScreen_ctorPort (o : Orientation) (s : State) : (setScreen o s).ctorPort = s.ctorPort := rfl

@[simp] theorem setScreen_buf (o : Orientation) (s : State) : (setScreen o s).buf = s.buf := rfl

@[simp] theorem setScreen_font (o : Orientation) (s : State) : (setScreen o s).font = s.font := rfl

@[simp] theorem setScreen_resp (o : Orientation) (s : State) : (setScreen o s).resp = s.resp := rfl

@[simp] theorem setScreen_port (o : Orientation) (s : State) : (setScreen o s).port = s.port := rfl

@[simp] theorem setScreen_busFails (o : Orientation) (s : State) : (setScreen o s).busFails = s.busFails := rfl

/-! ## answer -/

@[simp] theorem answer_cfg (st : Status) (r : Word16) (s : State) : (answer st r s).cfg = s.cfg := rfl

@[simp] theorem answer_phase (st : Status) (r : Word16) (s : State) : (answer st r s).phase = s.phase := rfl

@[simp] theorem answer_width (st : Status) (r : Word16) (s : State) : (answer st r s).width = s.width := rfl

@[simp] theorem answer_height (st : Status) (r : Word16) (s : State) : (answer st r s).height = s.height := rfl

@[simp] theorem answer_orient (st : Status) (r : Word16) (s : State) : (answer st r s).orient = s.orient := rfl

@[simp] theorem answer_backlightOn (st : Status) (r : Word16) (s : State) : (answer st r s).backlightOn = s.backlightOn := rfl

@[simp] theorem answer_busWidth (st : Status) (r : Word16) (s : State) : (answer st r s).busWidth = s.busWidth := rfl

@[simp] theorem answer_busy (st : Status) (r : Word16) (s : State) : (answer st r s).busy = false := rfl

@[simp] theorem answer_dc (st : Status) (r : Word16) (s : State) : (answer st r s).dc = s.dc := rfl

@[simp] theorem answer_rst (st : Status) (r : Word16) (s : State) : (answer st r s).rst = s.rst := rfl

@[simp] theorem answer_bl (st : Status) (r : Word16) (s : State) : (answer st r s).bl = s.bl := rfl

@[simp] theorem answer_ctor (st : Status) (r : Word16) (s : State) : (answer st r s).ctor = s.ctor := rfl

@[simp] theorem answer_xfer (st : Status) (r : Word16) (s : State) : (answer st r s).xfer = s.xfer := rfl

@[simp] theorem answer_trace (st : Status) (r : Word16) (s : State) : (answer st r s).trace = s.trace := rfl

@[simp] theorem answer_panel (st : Status) (r : Word16) (s : State) : (answer st r s).panel = s.panel := rfl

@[simp] theorem answer_ctorPort (st : Status) (r : Word16) (s : State) : (answer st r s).ctorPort = s.ctorPort := rfl

@[simp] theorem answer_buf (st : Status) (r : Word16) (s : State) : (answer st r s).buf = s.buf := rfl

@[simp] theorem answer_font (st : Status) (r : Word16) (s : State) : (answer st r s).font = s.font := rfl

@[simp] theorem answer_resp (st : Status) (r : Word16) (s : State) : (answer st r s).resp = some ⟨st, r⟩ := rfl

@[simp] theorem answer_port (st : Status) (r : Word16) (s : State) : (answer st r s).port = s.port := rfl

@[simp] theorem answer_busFails (st : Status) (r : Word16) (s : State) : (answer st r s).busFails = s.busFails := rfl

/-! ## restoreWidth (R231) -/

@[simp] theorem restoreWidth_cfg (s : State) : (restoreWidth s).cfg = s.cfg := by
  unfold restoreWidth; split <;> rfl

@[simp] theorem restoreWidth_phase (s : State) : (restoreWidth s).phase = s.phase := by
  unfold restoreWidth; split <;> rfl

@[simp] theorem restoreWidth_width (s : State) : (restoreWidth s).width = s.width := by
  unfold restoreWidth; split <;> rfl

@[simp] theorem restoreWidth_height (s : State) : (restoreWidth s).height = s.height := by
  unfold restoreWidth; split <;> rfl

@[simp] theorem restoreWidth_orient (s : State) : (restoreWidth s).orient = s.orient := by
  unfold restoreWidth; split <;> rfl

@[simp] theorem restoreWidth_backlightOn (s : State) : (restoreWidth s).backlightOn = s.backlightOn := by
  unfold restoreWidth; split <;> rfl

@[simp] theorem restoreWidth_busWidth (s : State) : (restoreWidth s).busWidth = .w8 := by
  unfold restoreWidth; split
  · rfl
  · cases h : s.busWidth <;> simp_all

@[simp] theorem restoreWidth_busy (s : State) : (restoreWidth s).busy = s.busy := by
  unfold restoreWidth; split <;> rfl

@[simp] theorem restoreWidth_dc (s : State) : (restoreWidth s).dc = s.dc := by
  unfold restoreWidth; split <;> rfl

@[simp] theorem restoreWidth_rst (s : State) : (restoreWidth s).rst = s.rst := by
  unfold restoreWidth; split <;> rfl

@[simp] theorem restoreWidth_bl (s : State) : (restoreWidth s).bl = s.bl := by
  unfold restoreWidth; split <;> rfl

@[simp] theorem restoreWidth_ctor (s : State) : (restoreWidth s).ctor = s.ctor := by
  unfold restoreWidth; split <;> rfl

@[simp] theorem restoreWidth_xfer (s : State) : (restoreWidth s).xfer = s.xfer := by
  unfold restoreWidth; split <;> rfl

theorem restoreWidth_trace (s : State) : (restoreWidth s).trace =
    if s.busWidth = .w16 then s.trace ++ [.busWidth .w8] else s.trace := by
  unfold restoreWidth; split <;> rfl

@[simp] theorem restoreWidth_panel (s : State) : (restoreWidth s).panel = s.panel := by
  unfold restoreWidth; split <;> rfl

@[simp] theorem restoreWidth_ctorPort (s : State) : (restoreWidth s).ctorPort = s.ctorPort := by
  unfold restoreWidth; split <;> rfl

@[simp] theorem restoreWidth_buf (s : State) : (restoreWidth s).buf = s.buf := by
  unfold restoreWidth; split <;> rfl

@[simp] theorem restoreWidth_font (s : State) : (restoreWidth s).font = s.font := by
  unfold restoreWidth; split <;> rfl

@[simp] theorem restoreWidth_resp (s : State) : (restoreWidth s).resp = s.resp := by
  unfold restoreWidth; split <;> rfl

@[simp] theorem restoreWidth_port (s : State) : (restoreWidth s).port = s.port := by
  unfold restoreWidth; split <;> rfl

@[simp] theorem restoreWidth_busFails (s : State) : (restoreWidth s).busFails = s.busFails := by
  unfold restoreWidth; split <;> rfl

/-! ## takeBusFailure (R230) -/

@[simp] theorem takeBusFailure_cfg (s : State) : (takeBusFailure s).cfg = s.cfg := by
  simp [takeBusFailure]

@[simp] theorem takeBusFailure_phase (s : State) : (takeBusFailure s).phase = .failed := by
  simp [takeBusFailure]

@[simp] theorem takeBusFailure_width (s : State) : (takeBusFailure s).width = s.width := by
  simp [takeBusFailure]

@[simp] theorem takeBusFailure_height (s : State) : (takeBusFailure s).height = s.height := by
  simp [takeBusFailure]

@[simp] theorem takeBusFailure_orient (s : State) : (takeBusFailure s).orient = s.orient := by
  simp [takeBusFailure]

@[simp] theorem takeBusFailure_backlightOn (s : State) : (takeBusFailure s).backlightOn = s.backlightOn := by
  simp [takeBusFailure]

@[simp] theorem takeBusFailure_busWidth (s : State) : (takeBusFailure s).busWidth = .w8 := by
  simp [takeBusFailure]

@[simp] theorem takeBusFailure_busy (s : State) : (takeBusFailure s).busy = false := by
  simp [takeBusFailure]

@[simp] theorem takeBusFailure_dc (s : State) : (takeBusFailure s).dc = s.dc := by
  simp [takeBusFailure]

@[simp] theorem takeBusFailure_rst (s : State) : (takeBusFailure s).rst = s.rst := by
  simp [takeBusFailure]

@[simp] theorem takeBusFailure_bl (s : State) : (takeBusFailure s).bl = s.bl := by
  simp [takeBusFailure]

@[simp] theorem takeBusFailure_ctor (s : State) : (takeBusFailure s).ctor = s.ctor := by
  simp [takeBusFailure]

@[simp] theorem takeBusFailure_xfer (s : State) : (takeBusFailure s).xfer = s.xfer := by
  simp [takeBusFailure]

theorem takeBusFailure_trace (s : State) : (takeBusFailure s).trace =
    if s.busWidth = .w16 then s.trace ++ [.busWidth .w8] else s.trace :=
  restoreWidth_trace s

@[simp] theorem takeBusFailure_panel (s : State) : (takeBusFailure s).panel = s.panel.undefine := by
  simp [takeBusFailure]

@[simp] theorem takeBusFailure_ctorPort (s : State) : (takeBusFailure s).ctorPort = s.ctorPort := by
  simp [takeBusFailure]

@[simp] theorem takeBusFailure_buf (s : State) : (takeBusFailure s).buf = s.buf := by
  simp [takeBusFailure]

@[simp] theorem takeBusFailure_font (s : State) : (takeBusFailure s).font = s.font := by
  simp [takeBusFailure]

@[simp] theorem takeBusFailure_resp (s : State) : (takeBusFailure s).resp = some ⟨.eBus, 0⟩ := by
  simp [takeBusFailure]

@[simp] theorem takeBusFailure_port (s : State) : (takeBusFailure s).port = s.port := by
  simp [takeBusFailure]

@[simp] theorem takeBusFailure_busFails (s : State) : (takeBusFailure s).busFails = s.busFails := by
  simp [takeBusFailure]

end Sys2Proof.Machine
end

