-- ==== Sys2Proof/Laws/Run.lean ====
section
/-! SUPPORT. What running actions, a procedure, an operation and a step can do, said once. -/

namespace Sys2Proof.Machine

/-! ## One action -/

/-- Everything a bus write can do (R130, U11). -/
theorem busWriteRun_cases (b : Batch) (s : State) :
    (s.busWidth = batchWidth b ∧ s.busOk s.xfer = true ∧
      busWriteRun b s = .done (emit (batchEvent b) { s with xfer := s.xfer + 1 })) ∨
    (s.busWidth = batchWidth b ∧ s.busOk s.xfer = false ∧
      busWriteRun b s = .busFailure { s with xfer := s.xfer + 1 }) ∨
    (s.busWidth ≠ batchWidth b ∧ busWriteRun b s = .refused (batchRefusal b)) := by
  unfold busWriteRun
  by_cases hw : s.busWidth = batchWidth b
  · cases ho : s.busOk s.xfer <;> simp [hw]
  · simp [hw]

/-- Only a bus write can fail, and it leaves only the count changed (R130, R229). -/
theorem runAct_busFailure (a : Act) (s t : State) (h : runAct a s = .busFailure t) :
    ∃ b, a = .write b ∧ s.busWidth = batchWidth b ∧ s.busOk s.xfer = false ∧
      t = { s with xfer := s.xfer + 1 } := by
  cases a <;> simp only [runAct, reduceCtorEq] at h
  rename_i b
  rcases busWriteRun_cases b s with ⟨_, _, e⟩ | ⟨hw, ho, e⟩ | ⟨_, e⟩ <;> rw [e] at h
  · cases h
  · cases h; exact ⟨b, rfl, hw, ho, rfl⟩
  · cases h

/-! ## A list of actions -/

@[simp] theorem runActs_nil (s : State) : runActs [] s = .done s := rfl

theorem runActs_cons (a : Act) (rest : List Act) (s : State) :
    runActs (a :: rest) s =
      match runAct a s with
      | .done t => runActs rest t
      | .busFailure t => .busFailure t
      | .refused r => .refused r := rfl

/-- Running two lists in a row. -/
theorem runActs_append (l1 l2 : List Act) (s : State) :
    runActs (l1 ++ l2) s =
      match runActs l1 s with
      | .done t => runActs l2 t
      | .busFailure t => .busFailure t
      | .refused r => .refused r := by
  induction l1 generalizing s with
  | nil => rfl
  | cons a l1 ih =>
    simp only [List.cons_append, runActs_cons]
    cases runAct a s with
    | done t => exact ih t
    | busFailure t => rfl
    | refused r => rfl

theorem runActs_append_done {l1 l2 : List Act} {s t : State} (h : runActs l1 s = .done t) :
    runActs (l1 ++ l2) s = runActs l2 t := by
  rw [runActs_append, h]

/-- A relation that every single action keeps, on success and on failure, holds from the start to
the end of a list of actions: each invariant and each frame is proved by this one induction. -/
theorem runActs_keeps (R : State → State → Prop) (hrefl : ∀ s, R s s)
    (htrans : ∀ s t u, R s t → R t u → R s u)
    (hact : ∀ a s t, runAct a s = .done t ∨ runAct a s = .busFailure t → R s t)
    (l : List Act) (s t : State) (h : runActs l s = .done t ∨ runActs l s = .busFailure t) : R s t := by
  induction l generalizing s with
  | nil =>
    rcases h with h | h
    · simp only [runActs_nil, Run.done.injEq] at h; exact h ▸ hrefl s
    · simp at h
  | cons a l ih =>
    rw [runActs_cons] at h
    cases ha : runAct a s with
    | done u =>
      rw [ha] at h
      exact htrans _ _ _ (hact a s u (.inl ha)) (ih u h)
    | busFailure u =>
      rw [ha] at h
      rcases h with h | h
      · cases h
      · cases h; exact hact a s t (.inr ha)
    | refused r => rw [ha] at h; rcases h with h | h <;> cases h

/-- The trace grows by what it is given, and the transfer count never falls (R31, R62). -/
theorem runActs_trace_xfer (l : List Act) (s t : State)
    (h : runActs l s = .done t ∨ runActs l s = .busFailure t) :
    (∃ es, t.trace = s.trace ++ es) ∧ s.xfer ≤ t.xfer := by
  refine runActs_keeps (fun s t => (∃ es, t.trace = s.trace ++ es) ∧ s.xfer ≤ t.xfer)
    (fun s => ⟨⟨[], by simp⟩, le_refl _⟩) ?_ ?_ l s t h
  · rintro s t u ⟨⟨e1, h1⟩, h2⟩ ⟨⟨e3, h3⟩, h4⟩
    exact ⟨⟨e1 ++ e3, by rw [h3, h1, List.append_assoc]⟩, h2.trans h4⟩
  · intro a s t h
    rcases h with h | h
    · cases a <;> simp only [runAct, Run.done.injEq] at h
      case pin line level => subst h; exact ⟨⟨[_], emit_trace _ _⟩, by simp⟩
      case width w => subst h; exact ⟨⟨[_], rfl⟩, le_refl _⟩
      case delay ms => subst h; exact ⟨⟨[_], emit_trace _ _⟩, by simp⟩
      case write b =>
        rcases busWriteRun_cases b s with ⟨_, _, e⟩ | ⟨_, _, e⟩ | ⟨_, e⟩ <;> rw [e] at h
        · cases h; exact ⟨⟨[_], emit_trace _ _⟩, by simp⟩
        · cases h
        · cases h
      case screen o => subst h; exact ⟨⟨[], by simp⟩, le_refl _⟩
      case phase p => subst h; exact ⟨⟨[], by simp⟩, le_refl _⟩
    · obtain ⟨b, _, _, _, rfl⟩ := runAct_busFailure a s t h
      exact ⟨⟨[], by simp⟩, Nat.le_succ _⟩

/-! ## Procedures, operations, steps -/

/-- Everything a procedure that answers a next state can have done. -/
theorem procedure_next (acts : List Act) (s t : State) (h : procedure acts s = .next t) :
    runActs acts s = .done t ∨ ∃ u, runActs acts s = .busFailure u ∧ t = takeBusFailure u := by
  unfold procedure at h
  cases hr : runActs acts s <;> rw [hr] at h <;> cases h
  · exact .inl rfl
  · exact .inr ⟨_, rfl, rfl⟩

/-- Everything an accepted operation that answers a next state can have done. -/
theorem runAndAnswer_next (acts : List Act) (st : Status) (s t : State)
    (h : runAndAnswer acts st s = .next t) :
    (∃ u, runActs acts s = .done u ∧ t = answer st 0 u) ∨
    ∃ u, runActs acts s = .busFailure u ∧ t = takeBusFailure u := by
  unfold runAndAnswer at h
  cases hr : runActs acts s <;> rw [hr] at h <;> cases h
  · exact .inl ⟨_, rfl, rfl⟩
  · exact .inr ⟨_, rfl, rfl⟩

/-- Everything a public operation that answers a next state can have done (R234, R236, R238). -/
theorem operation_next (plan : State → List Act × Status) (s t : State)
    (h : operation plan s = .next t) :
    (s.busy = true ∧ t = s) ∨
    (s.busy = false ∧ s.phase ≠ .p9 ∧ t = answer .eNotReady 0 s) ∨
    (s.busy = false ∧ s.phase = .p9 ∧
      runAndAnswer (plan s).1 (plan s).2 { s with busy := true } = .next t) := by
  unfold operation at h
  cases hb : s.busy
  · by_cases hp : s.phase = .p9
    · rw [hb, if_neg Bool.false_ne_true, if_pos hp] at h
      exact .inr (.inr ⟨rfl, hp, h⟩)
    · simp only [hb, Bool.false_eq_true, if_false, hp] at h
      cases h; exact .inr (.inl ⟨rfl, hp, rfl⟩)
  · simp only [hb, if_true] at h
    cases h; exact .inl ⟨rfl, rfl⟩

/-- What a step does with the port (R238, R245). -/
theorem step_of_busy (s : State) (h : s.busy = true) : step s = .next s := by
  simp [step, fetch, h]

theorem step_of_empty (s : State) (h : s.port = []) : step s = .next s := by
  cases hb : s.busy <;> simp [step, fetch, h, hb]

theorem step_of_present (s : State) (p : Presented) (rest : List HostMove) (hb : s.busy = false)
    (h : s.port = .present p :: rest) :
    step s =
      match decode s.cfg p with
      | .ok i => exec i { s with port := rest }
      | .error _ => notARow p { s with port := rest } := by
  simp only [step, fetch, hb, h, accept, Bool.false_eq_true, if_false]
  cases decode s.cfg p <;> rfl

end Sys2Proof.Machine
end

