-- ==== Sys2Proof/Tests/Slice0.lean ====
section
/-! SUPPORT. The model's own tests. Expected values come from spec 95 (vector numbers V<n>, S<n>) or are
worked by hand from the rule named; every `witness_` theorem shows a state and operands that meet the
hypotheses of one obligation, clause by clause. -/

namespace Sys2Proof.Tests

open Sys2Proof.Machine

/-! ## Well-formedness: an ill-formed term for each check (R91, R133) -/

theorem test_wf_gamset : (Instr.gamset []).wf Cfg.default = false := by decide
theorem test_wf_pixset : (Instr.pixset [0x55, 0x55]).wf Cfg.default = false := by decide
theorem test_wf_frmctr : (Instr.frmctr [0x00]).wf Cfg.default = false := by decide
theorem test_wf_dfunctr : (Instr.dfunctr [0x0A, 0x82, 0x27]).wf Cfg.default = false := by decide
theorem test_wf_etmod : (Instr.etmod [0x07, 0x00]).wf Cfg.default = false := by decide
theorem test_wf_accepts : (Instr.frmctr [0x00, 0x1B]).wf Cfg.default = true := by decide

/-! ## Decoding: every constructor, from a word or bytes written out from the encoding -/

/-- The instruction of a frame under the default configuration. -/
def frameInstr (bytes : List Byte) : Option Instr :=
  match decode Cfg.default (.frame bytes) with
  | .ok i => some i
  | .error _ => none

-- R91, D5: the default opcodes; R92: big-endian coordinates; R94: the parameters.
theorem test_decode_swreset : frameInstr [0x01] = some .swreset := by decide
theorem test_decode_slpout : frameInstr [0x11] = some .slpout := by decide
theorem test_decode_gamset : frameInstr [0x26, 0x01] = some (.gamset [0x01]) := by decide
theorem test_decode_dispoff : frameInstr [0x28] = some .dispoff := by decide
theorem test_decode_dispon : frameInstr [0x29] = some .dispon := by decide
theorem test_decode_caset :
    frameInstr [0x2A, 0x00, 0x0A, 0x00, 0xEF] = some (.caset 10 239) := by decide
theorem test_decode_paset :
    frameInstr [0x2B, 0x00, 0x00, 0x01, 0x3F] = some (.paset 0 319) := by decide
theorem test_decode_ramwr : frameInstr [0x2C] = some .ramwr := by decide
theorem test_decode_madctl : frameInstr [0x36, 0x48] = some (.madctl 0x48) := by decide
theorem test_decode_pixset : frameInstr [0x3A, 0x55] = some (.pixset [0x55]) := by decide
theorem test_decode_frmctr : frameInstr [0xB1, 0x00, 0x1B] = some (.frmctr [0x00, 0x1B]) := by decide
theorem test_decode_dfunctr :
    frameInstr [0xB6, 0x0A, 0x82, 0x27, 0x00] = some (.dfunctr [0x0A, 0x82, 0x27, 0x00]) := by decide
theorem test_decode_etmod : frameInstr [0xB7, 0x07] = some (.etmod [0x07]) := by decide
-- R133: one parameter short; R95: an unlisted opcode.
theorem test_decode_short_frame : frameInstr [0x2A, 0x00, 0x0A, 0x00] = none := by decide
theorem test_decode_unlisted : frameInstr [0x00] = none := by decide
-- R100 to R103, the words of spec 95 (V1 to V91 and its programs).
theorem test_decode_construct :
    decodeTableWord 96 0x000001000000000000000000 = some (.construct .landscape) := by decide
theorem test_decode_setOrientation :
    decodeTableWord 96 0x100003000000000000000000 = some (.setOrientation .landscapeFlipped) := by decide
theorem test_decode_setBacklight :
    decodeTableWord 96 0x200001000000000000000000 = some (.setBacklight true) := by decide
theorem test_decode_toColor565 :
    decodeTableWord 96 0x380000000000000000123456 = some (.toColor565 0x123456) := by decide
theorem test_decode_drawPixel565 :
    decodeTableWord 96 0x40000A00140000000000F800 = some (.drawPixel565 10 20 0xF800) := by decide
theorem test_decode_drawPixel888 :
    decodeTableWord 96 0x48000A001400000000FF0000 = some (.drawPixel888 10 20 0xFF0000) := by decide
theorem test_decode_fillRect :
    decodeTableWord 96 0x50000500070009000B00001F = some (.fillRect 5 7 9 11 0x001F) := by decide
theorem test_decode_drawCircle565 :
    decodeTableWord 96 0x60000500050001000000AAAA = some (.drawCircle565 5 5 1 0xAAAA) := by decide
theorem test_decode_drawCircle888 :
    decodeTableWord 96 0x680005000500010000FF0000 = some (.drawCircle888 5 5 1 0xFF0000) := by decide
theorem test_decode_flush :
    decodeTableWord 96 0x70FFFF000000040001000000 = some (.flush 0xFFFF 0 4 1) := by decide
theorem test_decode_clearScreen :
    decodeTableWord 96 0x800000000000000000000000 = some .clearScreen := by decide
theorem test_decode_fillScreen :
    decodeTableWord 96 0x90000000000000000000F81F = some (.fillScreen 0xF81F) := by decide
-- R104: V10, V53, V65, V71, V91 and program 5.
theorem test_decode_reserved :
    decodeTableWord 96 0x300000000000000000001234 = none ∧
    decodeTableWord 96 0x100004000000000000000000 = none ∧
    decodeTableWord 96 0x40000100010000000001F800 = none ∧
    decodeTableWord 96 0x5800000001000000010007E0 = none ∧
    decodeTableWord 96 0x800001000000000000000000 = none ∧
    decodeTableWord 96 0xA00000000000000000000000 = none := by decide
-- R106, R108: PROC and EXT rows have no encoding; a call stands for itself.
theorem test_decode_sendCommand :
    decode Cfg.default (.call (.sendCommand 0x2C)) = .ok (.sendCommand 0x2C) := rfl
theorem test_decode_sendData8 :
    decode Cfg.default (.call (.sendData8 [1])) = .ok (.sendData8 [1]) := rfl
theorem test_decode_sendData16 :
    decode Cfg.default (.call (.sendData16 [1])) = .ok (.sendData16 [1]) := rfl
theorem test_decode_setBusWidth :
    decode Cfg.default (.call (.setBusWidth .w16)) = .ok (.setBusWidth .w16) := rfl
theorem test_decode_busWrite :
    decode Cfg.default (.call (.busWrite (.bytes [1]))) = .ok (.busWrite (.bytes [1])) := rfl
theorem test_decode_setWindow :
    decode Cfg.default (.call (.setWindow (-1) 0 0 0)) = .ok (.setWindow (-1) 0 0 0) := rfl
theorem test_decode_orient :
    decode Cfg.default (.call (.orient .landscape)) = .ok (.orient .landscape) := rfl
theorem test_decode_drawChar :
    decode Cfg.default (.call (.drawChar 0 0 1 2 ⟨4, 2, 0, [0xB0]⟩)) =
      .ok (.drawChar 0 0 1 2 ⟨4, 2, 0, [0xB0]⟩) := rfl
theorem test_decode_drawString :
    decode Cfg.default (.call (.drawString 0 0 ['A'] 1 2)) = .ok (.drawString 0 0 ['A'] 1 2) := rfl

/-! ## Small states and readings -/

/-- A portrait machine ready to draw, as CONSTRUCT leaves it but for the trace (R169). -/
def ready : State :=
  { State.reset with
    phase := .p9, width := 240, height := 320, dc := .driven .low, rst := .driven .high, xfer := 26
    panel := { Panel.atPowerOn with
      cmd := some 0x2C, armed := true, sc := .of 0, ec := .of 239, sp := .of 0, ep := .of 319
      cx := .of 0, cy := .of 0, madctl := .of 0x48, pixfmt := .of [0x55], sleeping := false
      displayOn := true } }

/-- `ready` with the bus in 16-bit mode. -/
def ready16 : State := { ready with busWidth := .w16 }

/-- `ready` after a bus failure. -/
def failedState : State := { ready with phase := .failed, panel := ready.panel.undefine }

/-- A glyph of `w` by `h` pixels, all background. -/
def blank (w h spacing : Nat) : Glyph := ⟨w, h, spacing, List.replicate 100 0⟩

/-- `ready` with a font in which only `A` is a glyph, 4 by 2. -/
def withFont : State := { ready with font := ⟨0, [('A', ⟨4, 2, 0, [0xB0]⟩)]⟩ }

/-- A reading of the next state. -/
def after {α : Type} (i : Instr) (s : State) (f : State → α) : Option α :=
  match exec i s with
  | .next t => some (f t)
  | .fault _ => none
  | .refused _ => none

/-- A reading of the state one step later. -/
def stepped {α : Type} (s : State) (f : State → α) : Option α :=
  match step s with
  | .next t => some (f t)
  | .fault _ => none
  | .refused _ => none

/-- The events of spec 95's notation. -/
def C : Event := .pin .dc .low
def D : Event := .pin .dc .high
def W (l : List Byte) : Event := .write8 l
def X (l : List Word16) : Event := .write16 l
def BW8 : Event := .busWidth .w8
def BW16 : Event := .busWidth .w16

/-! ## One step of each instruction -/

-- R132, R137
theorem test_swreset : after .swreset ready (fun t => (t.trace, t.panel.sleeping, t.panel.cmd)) =
    some ([C, W [0x01]], true, none) := by decide
-- R132
theorem test_slpout :
    after .slpout { ready with panel := Panel.atPowerOn } (fun t => (t.panel.sleeping, t.panel.cmd)) =
      some (false, some 0x11) := by decide
theorem test_gamset : after (.gamset [0x08]) ready (fun t => (t.trace, t.panel.other)) =
    some ([C, W [0x26], D, W [0x08]], [(0x26, [0x08])]) := by decide
theorem test_dispoff : after .dispoff ready (fun t => (t.panel.displayOn, t.panel.armed)) =
    some (false, false) := by decide
theorem test_dispon :
    after .dispon { ready with panel := Panel.atPowerOn } (fun t => t.panel.displayOn) = some true := by
  decide
-- R145: the example `[0x00, 0x0A, 0x00, 0xEF]`; the cursor does not move
theorem test_caset : after (.caset 10 239) ready (fun t => (t.trace, t.panel.sc, t.panel.ec, t.panel.cx)) =
    some ([C, W [0x2A], D, W [0x00, 0x0A, 0x00, 0xEF]], .of 10, .of 239, .of 0) := by decide
-- R146
theorem test_paset : after (.paset 0 319) ready (fun t => (t.panel.sp, t.panel.ep, t.panel.armed)) =
    some (.of 0, .of 319, false) := by decide
-- R147
theorem test_ramwr :
    after .ramwr { ready with panel := { ready.panel with sc := .of 5, sp := .of 9 } }
      (fun t => (t.trace, t.panel.cx, t.panel.cy, t.panel.armed)) =
      some ([C, W [0x2C]], .of 5, .of 9, true) := by decide
-- R178: also when the byte is the one already there
theorem test_madctl :
    after (.madctl 0x48) { ready with panel := { ready.panel with fm := [(0, 1)] } }
      (fun t => (t.panel.madctl, t.pixel 0 0)) = some (.of 0x48, none) := by decide
theorem test_pixset : after (.pixset [0x66]) ready (fun t => t.panel.pixfmt) = some (.of [0x66]) := by
  decide
-- R134: one parameter more than expected
theorem test_pixset_long : after (.pixset [0x66, 0x66]) ready (fun t => t.panel.undef) = some true := by
  decide
theorem test_frmctr : after (.frmctr [0x00, 0x1B]) ready (fun t => t.panel.other) =
    some [(0xB1, [0x00, 0x1B])] := by decide
theorem test_dfunctr : after (.dfunctr [1, 2, 3, 4]) ready (fun t => t.panel.other) =
    some [(0xB6, [1, 2, 3, 4])] := by decide
theorem test_etmod : after (.etmod [0x07]) ready (fun t => t.panel.other) =
    some [(0xB7, [0x07])] := by decide

-- V40, V47: 58 events, 26 bus writes
theorem test_construct :
    after (.construct .portrait) State.reset
      (fun t => (t.trace.length, t.xfer, t.phase, t.width, t.resp)) =
      some (58, 26, .p9, 240, some ⟨.ok, 0⟩) := by decide
-- V43: the column parameters of step 4 fail
theorem test_construct_failure :
    after (.construct .portrait) { State.reset with busFails := [5] }
      (fun t => (t.trace.length, t.xfer, t.phase, t.width, t.resp)) =
      some (15, 6, .failed, 240, some ⟨.eBus, 0⟩) := by decide
-- V50
theorem test_setOrientation :
    after (.setOrientation .landscape) ready (fun t => (t.trace, t.width, t.panel.ec, t.panel.ep)) =
      some ([C, W [0x36], D, W [0x28], C, W [0x2A], D, W [0x00, 0x00, 0x01, 0x3F],
        C, W [0x2B], D, W [0x00, 0x00, 0x00, 0xEF], C, W [0x2C]], 320, .of 319, .of 239) := by decide
-- V57: the size is already updated when the parameter byte fails
theorem test_setOrientation_failure :
    after (.setOrientation .landscape) { ready with busFails := [27] }
      (fun t => (t.trace, t.width, t.phase, t.panel.undef)) =
      some ([C, W [0x36], D], 320, .failed, true) := by decide
-- V54, V55
theorem test_setBacklight_on : after (.setBacklight true) ready (fun t => (t.trace, t.backlightOn, t.bl)) =
    some ([.pin .bl .high], true, .driven .high) := by decide
theorem test_setBacklight_off : after (.setBacklight false) ready (fun t => (t.trace, t.xfer)) =
    some ([.pin .bl .low], 26) := by decide
-- V5, V8, V11: the lowest kept bits; any phase
theorem test_toColor565 : after (.toColor565 0x080408) State.reset (fun t => t.resp) =
    some (some ⟨.ok, 0x0821⟩) := by decide
theorem test_toColor565_failed : after (.toColor565 0xABCDEF) failedState (fun t => t.resp) =
    some (some ⟨.ok, 0xAE7D⟩) := by decide
-- V60
theorem test_drawPixel565 :
    after (.drawPixel565 10 20 0xF800) ready (fun t => (t.trace, t.pixel 10 20, t.xfer)) =
      some ([C, W [0x2A], D, W [0x00, 0x0A, 0x00, 0x0A], C, W [0x2B], D, W [0x00, 0x14, 0x00, 0x14],
        C, W [0x2C], BW16, D, X [0xF800], BW8], some 0xF800, 32) := by decide
-- V62: negative coordinate, sixteen bits on the wire, P.undef
theorem test_drawPixel565_negative :
    after (.drawPixel565 0xFFFF 0 0x1111) ready (fun t => (t.trace[3]?, t.panel.undef, t.resp)) =
      some (some (W [0xFF, 0xFF, 0xFF, 0xFF]), true, some ⟨.ok, 0⟩) := by decide
-- V61; V102: the pixel word fails at width 16
theorem test_drawPixel888 : after (.drawPixel888 10 20 0xFF0000) ready (fun t => t.trace[12]?) =
    some (some (X [0xF800])) := by decide
theorem test_drawPixel888_failure :
    after (.drawPixel888 10 20 0xFF0000) { ready with busFails := [31] }
      (fun t => (t.trace.drop 10, t.xfer, t.busWidth, t.resp)) =
      some ([BW16, D, BW8], 32, .w8, some ⟨.eBus, 0⟩) := by decide
-- V67: odd count, one batch a row
theorem test_fillRect_odd :
    after (.fillRect 5 7 9 11 0x001F) ready (fun t => (t.trace.drop 8, t.xfer, t.pixel 7 11)) =
      some ([C, W [0x2C], C, W [0x2C], BW16, D, X [0x1F, 0x1F, 0x1F], D, X [0x1F, 0x1F, 0x1F],
        D, X [0x1F, 0x1F, 0x1F], BW8], 35, some 0x001F) := by decide
-- V69: odd width, even count, one batch
theorem test_fillRect_even :
    after (.fillRect 0 2 0 1 0x1234) ready (fun t => (t.trace.drop 12, t.xfer)) =
      some ([BW16, D, X [0x1234, 0x1234, 0x1234, 0x1234, 0x1234, 0x1234], BW8], 33) := by decide
-- V74: the order of the five pixels
theorem test_discPoints : discPoints 5 5 1 = [(4, 5), (5, 4), (5, 5), (5, 6), (6, 5)] := by decide
theorem test_drawCircle565 :
    after (.drawCircle565 5 5 1 0xAAAA) ready (fun t => (t.trace.length, t.xfer, t.panel.cx, t.pixel 5 6)) =
      some (70, 56, .of 6, some 0xAAAA) := by decide
-- V75; V77: a negative radius draws nothing
theorem test_drawCircle888 : after (.drawCircle888 5 5 1 0xFF0000) ready (fun t => t.pixel 4 5) =
    some (some 0xF800) := by decide
theorem test_drawCircle888_empty :
    after (.drawCircle888 0 0 0xFFFF 0xFF0000) ready (fun t => (t.trace, t.resp)) =
      some ([], some ⟨.ok, 0⟩) := by decide
-- V83: odd clamped count, unclamped stride; V82: even
theorem test_flush_odd :
    after (.flush 237 0 4 3) { ready with buf := [0, 1, 2, 3, 4, 5, 6, 7, 8, 9, 10, 11] }
      (fun t => t.trace.drop 10) =
      some [BW16, D, X [0, 1, 2], D, X [4, 5, 6], D, X [8, 9, 10], BW8] := by decide
theorem test_flush_even :
    after (.flush 239 318 3 3) { ready with buf := [0, 1, 2, 3, 4, 5, 6, 7, 8] }
      (fun t => (t.trace[3]?, t.trace.drop 10, t.pixel 239 319)) =
      some (some (W [0x00, 0xEF, 0x00, 0xEF]), [BW16, D, X [0, 3], BW8], some 3) := by decide
-- V92; V104
theorem test_clearScreen_notReady : after .clearScreen State.reset (fun t => (t.trace, t.resp)) =
    some ([], some ⟨.eNotReady, 0⟩) := by decide
theorem test_fillScreen_failed : after (.fillScreen 0) failedState (fun t => (t.trace, t.resp)) =
    some ([], some ⟨.eNotReady, 0⟩) := by decide

-- R198, R199 on a screen of 2 by 2, so that the batch is short
theorem test_fillScreen :
    after (.fillScreen 0xF81F) { ready with width := 2, height := 2 }
      (fun t => (t.trace.drop 8, t.pixel 1 1, t.xfer)) =
      some ([C, W [0x2C], C, W [0x2C], BW16, D, X [0xF81F, 0xF81F, 0xF81F, 0xF81F], BW8],
        some 0xF81F, 33) := by decide
theorem test_clearScreen :
    after .clearScreen { ready with width := 2, height := 2 } (fun t => (t.trace[3]?, t.pixel 1 1)) =
      some (some (W [0x00, 0x00, 0x00, 0x01]), some 0x0000) := by decide

-- V20
theorem test_sendCommand : after (.sendCommand 0x2C) ready (fun t => (t.trace, t.dc, t.xfer)) =
    some ([C, W [0x2C]], .driven .low, 27) := by decide
-- V24: the next command finds the column parameters incomplete
theorem test_sendCommand_incomplete :
    after (.sendCommand 0x2B)
      { ready with panel := { ready.panel with cmd := some 0x2A, par := [0x00, 0x0A], armed := false } }
      (fun t => t.panel.undef) = some true := by decide
-- V21; V26: two bytes make a pixel, high byte first
theorem test_sendData8 :
    after (.sendData8 [0x00, 0x0A, 0x00, 0x14])
      { ready with panel := { ready.panel with cmd := some 0x2A, armed := false } }
      (fun t => (t.dc, t.panel.sc, t.panel.ec)) = some (.driven .high, .of 10, .of 20) := by decide
theorem test_sendData8_pixel :
    after (.sendData8 [0xF8, 0x00]) ready (fun t => (t.pixel 0 0, t.panel.half)) =
      some (some 0xF800, none) := by decide
-- V22; V25: a word while not armed
theorem test_sendData16 :
    after (.sendData16 [0xF800, 0x07E0]) ready16 (fun t => (t.trace, t.pixel 1 0, t.xfer)) =
      some ([D, X [0xF800, 0x07E0]], some 0x07E0, 27) := by decide
theorem test_sendData16_idle :
    after (.sendData16 [0x1234]) { ready16 with panel := { ready.panel with armed := false } }
      (fun t => t.panel.undef) = some true := by decide
-- R128: emitted also when the width is already 16
theorem test_setBusWidth : after (.setBusWidth .w16) ready16 (fun t => (t.trace, t.busWidth)) =
    some ([BW16], .w16) := by decide
-- V27; R131: no mode line yet
theorem test_busWrite_failure :
    after (.busWrite (.bytes [1])) { ready with busFails := [26] } (fun t => (t.trace, t.xfer, t.phase)) =
      some ([], 27, .failed) := by decide
theorem test_busWrite_unknown :
    after (.busWrite (.bytes [1])) State.reset (fun t => (t.trace, t.panel.undef)) =
      some ([W [1]], true) := by decide
-- V33; V34
theorem test_setWindow : after (.setWindow (-1) 0 0 0) ready (fun t => (t.trace[3]?, t.panel.sc, t.panel.undef)) =
    some (some (W [0xFF, 0xFF, 0x00, 0x00]), .of 65535, false) := by decide
theorem test_setWindow_bytes : after (.setWindow 256 257 1 2) ready (fun t => (t.trace[3]?, t.trace[7]?)) =
    some (some (W [0x01, 0x00, 0x01, 0x01]), some (W [0x00, 0x01, 0x00, 0x02])) := by decide
-- R175
theorem test_orient : after (.orient .portraitFlipped) ready (fun t => (t.height, t.orient, t.trace[3]?)) =
    some (320, .portraitFlipped, some (W [0x88])) := by decide
-- V110 (S9); V112
theorem test_drawChar :
    after (.drawChar 0 0 1 2 ⟨4, 2, 0, [0xB0]⟩) ready (fun t => (t.trace.drop 10, t.trace[3]?)) =
      some ([BW16, D, X [1, 2, 1, 1, 2, 2, 2, 2], BW8], some (W [0, 0, 0, 3])) := by decide
theorem test_drawChar_short :
    after (.drawChar 0 0 1 2 ⟨3, 3, 0, [0xAA]⟩) ready (fun t => (t.trace, t.resp)) =
      some ([], some ⟨.eContract, 0⟩) := by decide
-- V118: the third character is absent; V117: the places of the glyphs
theorem test_drawString :
    after (.drawString 0 0 ['A', 'A', 'B'] 1 2) withFont (fun t => (t.trace.length, t.resp)) =
      some (28, some ⟨.eContract, 0⟩) := by decide
theorem test_stringLayout :
    ((stringLayout 240 ⟨0, [('A', blank 6 8 1), ('B', blank 6 8 1), ('C', blank 6 8 1),
      ('\n', blank 6 10 1)]⟩ 10 ['A', '\n', 'B', '\r', 'C'] 10 0).1.map fun p => (p.x, p.y)) =
      [(10, 0), (17, 10), (10, 10)] := by decide

/-! ## The step -/

-- R104, program 5
theorem test_step_reserved :
    stepped (State.reset.withFetchWord 96 0xA00000000000000000000000) (fun t => (t.trace, t.resp)) =
      some ([], some ⟨.eReserved, 0⟩) := by decide
-- program 1, request 2, as the first instruction after reset
theorem test_step_request :
    stepped (State.reset.withFetchWord 96 0x380000000000000000123456) (fun t => t.resp) =
      some (some ⟨.ok, 0x11AA⟩) := by decide

/-! ## Witnesses: a state and operands that meet the hypotheses of each obligation -/

/-- A reading of the next state shows that there is one with that reading. -/
theorem next_of_after {α : Type} {i : Instr} {s : State} {f : State → α} {v : α}
    (h : after i s f = some v) : ∃ t, exec i s = .next t ∧ f t = v := by
  unfold after at h
  split at h
  · exact ⟨_, by assumption, by simpa using h⟩
  · cases h
  · cases h

/-- The same of a step. -/
theorem next_of_stepped {α : Type} {s : State} {f : State → α} {v : α}
    (h : stepped s f = some v) : ∃ t, step s = .next t ∧ f t = v := by
  unfold stepped at h
  split at h
  · exact ⟨_, by assumption, by simpa using h⟩
  · cases h
  · cases h

/-- With no failing write listed, every write succeeds. -/
theorem writesOk_of_none (s : State) (n : Nat) (h : s.busFails = []) : s.writesOk n := by
  intro k _ _
  simp [State.busOk, h]

theorem ready_ready : ready.ready := ⟨rfl, rfl, rfl⟩

theorem ready_panelReady : ready.panelReady := ⟨rfl, by decide, rfl⟩

theorem ready_legal : ready.legalScreen := .inl ⟨rfl, rfl⟩

theorem ready_writes (n : Nat) : ready.writesOk n := writesOk_of_none ready n rfl

theorem ready_wire (n : Nat) : ready.cfg.wf ∧ ready.busWidth = .w8 ∧ ready.writesOk n :=
  ⟨by decide, rfl, ready_writes n⟩

theorem ready_settled : ready.Settled where
  inv :=
    { cfg := by decide
      mem := .nil
      idle := rfl
      phase := .inr (.inl rfl)
      screen := fun _ => ready_legal
      cursor := by intros; decide
      onScreen := by
        intro _ e he
        cases he }
  width8 := rfl
  panel := fun _ _ => ready_panelReady

theorem witness_DecodeOfEncode : Cfg.default.wf ∧ (Instr.dfunctr [1, 2, 3, 4]).wf Cfg.default = true := by
  decide

theorem witness_DecodedBitsAreTheEncoding :
    decodeRequest 0x48000A001400000000FF0000 = .ok (.drawPixel888 10 20 0xFF0000) ∧
    decodeFrame Cfg.default [0x2A, 0xFF, 0xFF, 0x00, 0x00] = .ok (.caset 0xFFFF 0) := by decide

theorem witness_RowSelectedByMatchAndMask :
    (∃ r ∈ requestRows, 0x000003000000000000000000 &&& r.mask = r.pat) ∧
    (∀ r ∈ requestRows, 0xF00000000000000000000000 &&& r.mask ≠ r.pat) := by decide

theorem witness_StepRunsThePresentedInstruction :
    (ready.busy = false ∧ (place (.frame [0x29]) ready).port = [.present (.frame [0x29])] ∧
      decode ready.cfg (.frame [0x29]) = .ok .dispon) ∧
    (ready.cfg = Cfg.default ∧ decodeTableWord 8 0x29 = some .dispon ∧
      decodeTableWord 96 0x800000000000000000000000 = some .clearScreen) := by decide

theorem witness_ReservedWordAnswersReserved :
    failedState.busy = false ∧
    (∀ r ∈ requestRows, 0x080000000000000000000000 &&& r.mask ≠ r.pat) ∧
    (place (.request 0x080000000000000000000000) failedState).port =
      [.present (.request 0x080000000000000000000000)] := by decide

theorem witness_HostMovesBetweenOperations :
    ({ ready with busy := true } : State).busy = true ∧ ready.port = [] ∧
    ({ ready with port := [.supplyBuf [1]] } : State).port = .supplyBuf [1] :: [] ∧
    ({ ready with port := [.supplyFont ⟨0, []⟩] } : State).port = .supplyFont ⟨0, []⟩ :: [] ∧
    ({ ready with port := [.supplyTokens ⟨none, 0, 0, 0⟩] } : State).port =
      .supplyTokens ⟨none, 0, 0, 0⟩ :: [] ∧ ready.busy = false := by decide

theorem witness_SendCommandCompletes : ready.busWidth = .w8 ∧ ready.writesOk 1 :=
  ⟨rfl, ready_writes 1⟩

theorem ready_panelTakesPixels : ready.panelTakesPixels := ⟨rfl, rfl, by decide⟩

/-- `ready` with the high byte of a pixel pending. -/
def halfPending : State := { ready with panel := { ready.panel with half := some 0xF8 } }

/-- `ready` with all four column parameters received, and one more to come. -/
def columnsDone : State :=
  { ready with panel := { ready.panel with cmd := some 0x2A, par := [0, 5, 0, 7], armed := false } }

theorem witness_SendData8Completes :
    (ready.cfg.wf ∧ ready.busWidth = .w8 ∧ ready.writesOk 1) ∧
    (ready.panelTakesPixels ∧ ready.panel.half = none) ∧
    (halfPending.panelTakesPixels ∧ halfPending.panel.half = some 0xF8) ∧
    (columnsDone.panel.armed = false ∧ columnsDone.panel.cmd.bind columnsDone.cfg.command? = some .caset ∧
      columnsDone.cfg.expected .caset < columnsDone.panel.par.length + [(1 : Byte)].length) ∧
    State.reset.panel.armed = false ∧ State.reset.panel.cmd = none :=
  ⟨ready_wire 1, ⟨ready_panelTakesPixels, rfl⟩, ⟨⟨rfl, rfl, by decide⟩, rfl⟩, by decide, rfl, rfl⟩

theorem witness_SendData16Completes :
    (ready16.cfg.wf ∧ ready16.busWidth = .w16 ∧ ready16.writesOk 1) ∧
    (ready16.panelTakesPixels ∧ ready16.panel.half = none) ∧
    halfPending.panel.half ≠ none ∧ columnsDone.panel.armed = false :=
  ⟨⟨by decide, rfl, writesOk_of_none _ _ rfl⟩, ⟨⟨rfl, rfl, by decide⟩, rfl⟩, by decide, rfl⟩

theorem witness_WrongWidthRefused : ready.busWidth = .w8 ∧ ready16.busWidth = .w16 := ⟨rfl, rfl⟩

theorem witness_BusWriteCompletes :
    (ready.busWidth = batchWidth (.bytes []) ∧ ready.busOk ready.xfer = true) ∧
    (ready16.busWidth = batchWidth (.words [1]) ∧
      ({ ready16 with busFails := [26] } : State).busOk ready16.xfer = false) := by decide

theorem witness_BusFailureEffects :
    (∃ t, exec (.drawPixel565 1 1 1) { ready with busFails := [31] } = .next t ∧
      (t.phase, t.xfer) = (.failed, 32)) ∧
    (26 ≤ 31 ∧ 31 < 32 ∧ ({ ready with busFails := [31] } : State).busOk 31 = false) ∧
    (∃ t, exec .dispon { failedState with busFails := [26] } = .next t ∧ t.xfer = 27) ∧
    ready.phase ≠ .failed ∧ ∃ u, exec (.drawPixel565 1 1 1) ready = .next u ∧ u.xfer = 32 :=
  ⟨next_of_after (f := fun t => (t.phase, t.xfer)) (by decide), by decide,
    next_of_after (f := State.xfer) (by decide), by decide, next_of_after (f := State.xfer) (by decide)⟩

theorem witness_PlainCommandsComplete : ready.cfg.wf ∧ ready.busWidth = .w8 ∧ ready.writesOk 1 :=
  ready_wire 1

theorem witness_PanelResets : ready.cfg.wf ∧ ready.busWidth = .w8 ∧ ready.writesOk 1 := ready_wire 1

theorem witness_RangeCommandsLatch : ready.cfg.wf ∧ ready.busWidth = .w8 ∧ ready.writesOk 2 :=
  ready_wire 2

theorem witness_MadctlForgetsTheFrame : ready.cfg.wf ∧ ready.busWidth = .w8 ∧ ready.writesOk 2 :=
  ready_wire 2

theorem witness_PixsetSetsTheFormat :
    (ready.cfg.wf ∧ ready.busWidth = .w8 ∧ ready.writesOk 2) ∧
    [(0x66 : Byte)].length = ready.cfg.payPixset.length := ⟨ready_wire 2, rfl⟩

theorem witness_RegisterCommandsStore :
    (ready.cfg.wf ∧ ready.busWidth = .w8 ∧ ready.writesOk 2) ∧
    [(1 : Byte), 2].length = ready.cfg.payFrmctr.length ∧
    [(1 : Byte)].length = ready.cfg.payGamset.length ∧
    [(1 : Byte)].length = ready.cfg.payEtmod.length ∧
    [(1 : Byte), 2, 3, 4].length = ready.cfg.payDfunctr.length := ⟨ready_wire 2, rfl, rfl, rfl, rfl⟩

theorem witness_UnlistedOpcodeUndefines :
    (ready.cfg.wf ∧ ready.busWidth = .w8 ∧ ready.writesOk 2) ∧ ready.cfg.command? 0xFF = none ∧
    [(1 : Byte)] ≠ [] := ⟨ready_wire 2, by decide, by decide⟩

theorem witness_UndefIsSticky :
    failedState.cfg.wf ∧ failedState.panel.undef = true ∧
    (∃ t, exec .swreset failedState = .next t ∧ t.panel.undef = false) ∧
    (∃ t, exec (.busWrite (.bytes [0x29, 0x01])) failedState = .next t ∧ t.panel.undef = false) :=
  ⟨by decide, rfl, next_of_after (f := fun t => t.panel.undef) (by decide),
    next_of_after (f := fun t => t.panel.undef) (by decide)⟩

theorem witness_BatchBoundariesDoNotMatter : Cfg.default.wf := by decide

theorem witness_SetWindowCompletes : ready.cfg.wf ∧ ready.busWidth = .w8 ∧ ready.writesOk 5 :=
  ready_wire 5

/-- The armed window (5, 7, 9, 11) of V35 to V37. -/
def window : Panel :=
  { ready.panel with sc := .of 5, ec := .of 7, sp := .of 9, ep := .of 11, cx := .of 5, cy := .of 9 }

/-- A panel that has three of the four column parameters. -/
def collecting : Panel := { ready.panel with cmd := some 0x2A, par := [0, 5, 0], armed := false }

theorem witness_WindowStateMachine :
    Cfg.default.wf ∧ Cfg.default.command? 0x2C = some .ramwr ∧ Cfg.default.command? 0x01 = some .swreset ∧
    Cfg.default.command? 0x2A = some .caset ∧
    (collecting.windowState Cfg.default = .collecting ∧
      collecting.cmd.bind Cfg.default.command? = some .caset ∧
      collecting.par.length + 1 = Cfg.default.expected .caset) ∧
    window.windowState Cfg.default = .armed := by decide

theorem witness_PixelStreamIsRowMajor :
    window.undef = false ∧ window.armed = true ∧ window.half = none ∧
    window.windowOk Cfg.default 240 320 = true ∧ window.cx = window.sc ∧ window.cy = window.sp ∧
    (List.replicate 8 (1 : Word16)).length <
      (window.ec.val.toNat - window.sc.val.toNat + 1) * (window.ep.val.toNat - window.sp.val.toNat + 1) := by
  decide

theorem witness_CompleteFill :
    window.undef = false ∧ window.armed = true ∧ window.half = none ∧
    window.windowOk Cfg.default 8 12 = true ∧ window.cx = window.sc ∧ window.cy = window.sp ∧
    3 = window.ec.val.toNat - window.sc.val.toNat + 1 ∧
    3 = window.ep.val.toNat - window.sp.val.toNat + 1 ∧
    (List.replicate 9 (1 : Word16)).length = 3 * 3 := by decide

theorem witness_ConstructEmits58Events :
    (State.reset.cfg.wf ∧ State.reset.busy = false ∧ State.reset.phase = .p0 ∧
      State.reset.busWidth = .w8 ∧ State.reset.ctorPort.bus = some 0 ∧
      0 ∉ State.reset.cfg.invalidBuses) ∧ State.reset.writesOk 26 :=
  ⟨by decide, writesOk_of_none _ _ rfl⟩

theorem witness_ConstructLeavesReadyState :
    (State.reset.cfg.wf ∧ State.reset.busy = false ∧ State.reset.phase = .p0 ∧
      State.reset.busWidth = .w8 ∧ State.reset.ctorPort.bus = some 0 ∧
      0 ∉ State.reset.cfg.invalidBuses) ∧ State.reset.writesOk 26 :=
  ⟨by decide, writesOk_of_none _ _ rfl⟩

/-- A machine before construction whose port names an invalid bus. -/
def badBus : State :=
  { State.reset with cfg := { Cfg.default with invalidBuses := [7] }, ctorPort := ⟨some 7, 0, 0, 0⟩ }

/-- A machine before construction whose port names no bus. -/
def noBus : State := { State.reset with ctorPort := ⟨none, 0, 0, 0⟩ }

theorem witness_InvalidBusIsRefused :
    (badBus.busy = false ∧ badBus.phase = .p0 ∧
      ∀ bus, badBus.ctorPort.bus = some bus → bus ∈ badBus.cfg.invalidBuses) ∧
    (noBus.busy = false ∧ noBus.phase = .p0 ∧
      ∀ bus, noBus.ctorPort.bus = some bus → bus ∈ noBus.cfg.invalidBuses) ∧
    ∃ t, exec (.construct .portrait) noBus = .next t ∧ t.resp = some ⟨.eConfig, 0⟩ := by
  refine ⟨⟨rfl, rfl, ?_⟩, ⟨rfl, rfl, ?_⟩, next_of_after (f := State.resp) (by decide)⟩
  · intro bus h
    cases h
    decide
  · intro bus h
    cases h

theorem witness_OrientationChangeCompletes :
    (ready.cfg.wf ∧ ready.busWidth = .w8 ∧ ready.writesOk 7) ∧ ready.ready :=
  ⟨ready_wire 7, ready_ready⟩

theorem witness_SetBacklightCompletes :
    (ready.busy = false ∧ ready.phase = .p9) ∧ State.reset.busy = false ∧ State.reset.phase ≠ .p9 := by
  decide

theorem witness_DrawPixelCompletes : ready.ready ∧ ready.writesOk 6 := ⟨ready_ready, ready_writes 6⟩

theorem witness_DrawPixelWritesItsPixel :
    ready.cfg.wf ∧ ready.ready ∧ ready.panelReady ∧ ready.writesOk 6 ∧
    (0 ≤ (239 : Word16).toInt ∧ (239 : Word16).toInt < ready.width ∧ 0 ≤ (319 : Word16).toInt ∧
      (319 : Word16).toInt < ready.height) :=
  ⟨by decide, ready_ready, ready_panelReady, ready_writes 6, by decide⟩

theorem witness_DrawPixelOffScreenUndefines :
    ready.cfg.wf ∧ ready.ready ∧ ready.legalScreen ∧ ready.writesOk 6 ∧
    (¬ (0 ≤ (240 : Word16).toInt ∧ (240 : Word16).toInt < ready.width ∧ 0 ≤ (0 : Word16).toInt ∧
      (0 : Word16).toInt < ready.height)) ∧
    ¬ (0 ≤ (0 : Word16).toInt ∧ (0 : Word16).toInt < ready.width ∧ 0 ≤ (0xFFFF : Word16).toInt ∧
      (0xFFFF : Word16).toInt < ready.height) :=
  ⟨by decide, ready_ready, ready_legal, ready_writes 6, by decide, by decide⟩

theorem witness_FillRectCompletes :
    ready.ready ∧ (∀ n, ready.writesOk n) ∧ (4 : Word16).toInt < (5 : Word16).toInt ∧
    (((3 : Nat) : Int) = (7 : Word16).toInt - (5 : Word16).toInt + 1 ∧ 3 * 3 % 2 = 1) ∧
    (((1 : Nat) : Int) = (5 : Word16).toInt - (5 : Word16).toInt + 1 ∧
      ((2 : Nat) : Int) = (10 : Word16).toInt - (9 : Word16).toInt + 1 ∧ 1 * 2 % 2 = 0) :=
  ⟨ready_ready, ready_writes, by decide, by decide, by decide⟩

theorem witness_FillRectFillsItsRectangle :
    ready.cfg.wf ∧ ready.ready ∧ ready.panelReady ∧ ready.legalScreen ∧
    ready.writesOk (if 240 * 320 % 2 = 0 then 7 else 6 + 320) ∧
    (((240 : Nat) : Int) = (239 : Word16).toInt - (0 : Word16).toInt + 1 ∧
      ((320 : Nat) : Int) = (319 : Word16).toInt - (0 : Word16).toInt + 1 ∧
      0 ≤ (0 : Word16).toInt ∧ (0 : Word16).toInt ≤ (239 : Word16).toInt ∧
      (239 : Word16).toInt < ready.width ∧ (0 : Word16).toInt ≤ (319 : Word16).toInt ∧
      (319 : Word16).toInt < ready.height) ∧
    ready.writesOk (if 3 * 3 % 2 = 0 then 7 else 6 + 3) ∧
    (((3 : Nat) : Int) = (239 : Word16).toInt - (237 : Word16).toInt + 1 ∧
      ((3 : Nat) : Int) = (319 : Word16).toInt - (317 : Word16).toInt + 1) :=
  ⟨by decide, ready_ready, ready_panelReady, ready_legal, ready_writes _, by decide, ready_writes _,
    by decide⟩

theorem witness_DrawCircleCompletes :
    ready.ready ∧ ready.writesOk (6 * (discPoints 0 0 (2 : Word16).toInt).length) ∧
    (0xFFFF : Word16).toInt < 0 := ⟨ready_ready, ready_writes _, by decide⟩

theorem witness_DrawCircleFillsItsDisc :
    ready.cfg.wf ∧ ready.ready ∧ ready.panelReady ∧ ready.legalScreen ∧
    ready.writesOk (6 * (discPoints (1 : Word16).toInt (318 : Word16).toInt (1 : Word16).toInt).length) ∧
    (0 ≤ (1 : Word16).toInt ∧ 0 ≤ (1 : Word16).toInt - (1 : Word16).toInt ∧
      (1 : Word16).toInt + (1 : Word16).toInt < ready.width ∧
      0 ≤ (318 : Word16).toInt - (1 : Word16).toInt ∧
      (318 : Word16).toInt + (1 : Word16).toInt < ready.height) :=
  ⟨by decide, ready_ready, ready_panelReady, ready_legal, ready_writes _, by decide⟩

theorem witness_FlushEarlyReturns :
    (ready.busy = false ∧ ready.phase = .p9) ∧
    ((0xFFFF : Word16).toInt < 0 ∧ (0 : Word16).toInt ≤ 0 ∧ (ready.width : Int) - (240 : Word16).toInt ≤ 0 ∧
      (ready.height : Int) - (320 : Word16).toInt ≤ 0) ∧
    (0 ≤ (239 : Word16).toInt ∧ 0 < (1 : Word16).toInt ∧ 0 < (ready.width : Int) - (239 : Word16).toInt ∧
      0 < (ready.height : Int) - (319 : Word16).toInt ∧
      (ready.buf.length : Int) < (1 : Word16).toInt * (1 : Word16).toInt) ∧
    State.reset.busy = false ∧ State.reset.phase ≠ .p9 := by decide

/-- `ready` with a buffer of twelve pixels. -/
def withBuf : State := { ready with buf := [0, 1, 2, 3, 4, 5, 6, 7, 8, 9, 10, 11] }

theorem witness_FlushCompletes :
    withBuf.ready ∧ (∀ n, withBuf.writesOk n) ∧
    (0 ≤ (237 : Word16).toInt ∧ 0 ≤ (0 : Word16).toInt ∧ 0 < (4 : Word16).toInt ∧
      0 < (3 : Word16).toInt ∧
      ((3 : Nat) : Int) = min (4 : Word16).toInt ((withBuf.width : Int) - (237 : Word16).toInt) ∧
      ((3 : Nat) : Int) = min (3 : Word16).toInt ((withBuf.height : Int) - (0 : Word16).toInt) ∧
      (4 : Word16).toInt * (3 : Word16).toInt ≤ (withBuf.buf.length : Int)) ∧
    (((1 : Nat) : Int) = min (3 : Word16).toInt ((withBuf.width : Int) - (239 : Word16).toInt) ∧
      ((2 : Nat) : Int) = min (3 : Word16).toInt ((withBuf.height : Int) - (318 : Word16).toInt) ∧
      (3 : Word16).toInt * (3 : Word16).toInt ≤ (withBuf.buf.length : Int)) :=
  ⟨⟨rfl, rfl, rfl⟩, fun n => writesOk_of_none _ n rfl, by decide, by decide⟩

theorem witness_FlushCopiesTheBuffer :
    withBuf.cfg.wf ∧ withBuf.ready ∧ withBuf.panelReady ∧ withBuf.legalScreen ∧
    (0 ≤ (237 : Word16).toInt ∧ 0 ≤ (319 : Word16).toInt ∧ 0 < (4 : Word16).toInt ∧
      ((3 : Nat) : Int) = min (4 : Word16).toInt ((withBuf.width : Int) - (237 : Word16).toInt) ∧
      ((1 : Nat) : Int) = min (3 : Word16).toInt ((withBuf.height : Int) - (319 : Word16).toInt) ∧
      (4 : Word16).toInt * (3 : Word16).toInt ≤ (withBuf.buf.length : Int)) ∧
    withBuf.writesOk (if 3 * 1 % 2 = 0 then 6 else 5 + 1) ∧
    (((2 : Nat) : Int) = min (3 : Word16).toInt ((withBuf.width : Int) - (238 : Word16).toInt) ∧
      (3 : Word16).toInt * (3 : Word16).toInt ≤ (withBuf.buf.length : Int)) ∧
    withBuf.writesOk (if 2 * 1 % 2 = 0 then 6 else 5 + 1) :=
  ⟨by decide, ⟨rfl, rfl, rfl⟩, ⟨rfl, by decide, rfl⟩, .inl ⟨rfl, rfl⟩, by decide,
    writesOk_of_none _ _ rfl, by decide, writesOk_of_none _ _ rfl⟩

theorem witness_FillScreenPaintsTheScreen :
    ready.ready ∧ ready.legalScreen ∧ ready.writesOk 7 ∧ ready.cfg.wf ∧ ready.panelReady :=
  ⟨ready_ready, ready_legal, ready_writes 7, by decide, ready_panelReady⟩

theorem witness_NotReadyOutsideItsPhase :
    (failedState.busy = false ∧ failedState.phase ≠ .p9 ∧ Instr.clearScreen.format = .req) ∧
    ready.phase ≠ .p0 ∧ ∃ t, step ready = .next t ∧ t.phase = .p9 :=
  ⟨by decide, by decide, next_of_stepped (f := State.phase) (by decide)⟩

theorem witness_DrawCharCompletes :
    ready.busy = false ∧ ready.busWidth = .w8 ∧ ready.writesOk 6 ∧
    glyphDrawable ⟨3, 3, 0, [0xAA, 0x80]⟩ ∧ ¬ glyphDrawable ⟨3, 3, 0, [0xAA]⟩ ∧
    ¬ glyphDrawable ⟨0, 1, 0, [0xAA]⟩ := by
  refine ⟨rfl, rfl, ready_writes 6, ?_, ?_, ?_⟩ <;> (unfold glyphDrawable; decide)

theorem witness_DrawCharPaintsItsGlyph :
    ready.cfg.wf ∧ ready.busy = false ∧ ready.busWidth = .w8 ∧ ready.panelReady ∧ ready.legalScreen ∧
    ready.writesOk 6 ∧ glyphDrawable ⟨4, 2, 0, [0xB0]⟩ ∧ 236 + 4 ≤ ready.width ∧ 318 + 2 ≤ ready.height :=
  ⟨by decide, rfl, rfl, ready_panelReady, ready_legal, ready_writes 6,
    by unfold glyphDrawable; decide, by decide, by decide⟩

theorem witness_DrawStringPlacesGlyphs :
    withFont.ready ∧ (∀ n, withFont.writesOk n) ∧
    stringLayout withFont.width withFont.font 0 ['A', 'B'] 0 0 =
      ([⟨0, 0, ⟨4, 2, 0, [0xB0]⟩⟩], .eContract) ∧
    stringLayout withFont.width withFont.font 238 ['A'] 238 0 =
      ([⟨238, 2, ⟨4, 2, 0, [0xB0]⟩⟩], .ok) :=
  ⟨⟨rfl, rfl, rfl⟩, fun n => writesOk_of_none _ n rfl, by decide, by decide⟩

/-- A glyph of 120 by 1 in one colour: two to a line of 240. -/
def bar (b : Byte) : Glyph := ⟨120, 1, 0, List.replicate 15 b⟩

/-- `ready` with two such glyphs. -/
def wideFont : State := { ready with font := ⟨0, [('A', bar 0xFF), ('B', bar 0)]⟩ }

theorem witness_FixedWidthTextWraps :
    wideFont.ready ∧ (0 < 120 ∧ 120 ≤ wideFont.width ∧ 0 < 1) ∧
    (∀ ch ∈ ['A', 'B', 'A'], ch ≠ '\n' ∧ ch ≠ '\r') ∧
    ['A', 'B', 'A'].map (lookupGlyph wideFont.font) = [bar 0xFF, bar 0, bar 0xFF].map some ∧
    (∀ g ∈ [bar 0xFF, bar 0, bar 0xFF],
      g.width = (120 : Nat) ∧ g.height = (1 : Nat) ∧ g.spacing = 0 ∧ glyphDrawable g) ∧
    wideFont.writesOk (6 * ['A', 'B', 'A'].length) := by
  have bar_ok (b : Byte) : (bar b).width = (120 : Nat) ∧ (bar b).height = (1 : Nat) ∧
      (bar b).spacing = 0 ∧ glyphDrawable (bar b) := by simp [bar, glyphDrawable]
  refine ⟨⟨rfl, rfl, rfl⟩, by decide, by simp, rfl, ?_,
    writesOk_of_none _ _ rfl⟩
  simp [bar_ok]

theorem witness_StepKeepsInvariant :
    ready.Inv ∧ ∃ t, step ready = .next t ∧ t.xfer = 26 :=
  ⟨ready_settled.inv, next_of_stepped (f := State.xfer) (by decide)⟩

theorem witness_RequestsKeepSettled :
    ready.Settled ∧ (Instr.drawPixel565 239 319 1).format = .req ∧
    ∃ t, exec (.drawPixel565 239 319 1) ready = .next t ∧ t.xfer = 32 :=
  ⟨ready_settled, rfl, next_of_after (f := State.xfer) (by decide)⟩

theorem witness_TraceGrowsByWidthDiscipline :
    ∃ t, step (ready.withFetchWord 96 0x40000A00140000000000F800) = .next t ∧ t.trace.length = 14 :=
  next_of_stepped (f := fun t => t.trace.length) (by decide)

theorem witness_ModeLineBeforeTransfer :
    (∀ b, Instr.drawPixel565 1 1 1 ≠ .busWrite b) ∧
    (∃ t, exec (.drawPixel565 1 1 1) ready = .next t ∧ t.trace.length = 14) ∧
    State.reset.busWidth = batchWidth (.bytes []) ∧ State.reset.dc = .undriven :=
  ⟨fun _ h => (by cases h), next_of_after (f := fun t => t.trace.length) (by decide), rfl, rfl⟩

theorem witness_FailedIsTerminal :
    failedState.phase = .failed ∧ (∃ t, step failedState = .next t ∧ t.xfer = 26) ∧
    ∃ t, exec .clearScreen failedState = .next t ∧ t.resp = some ⟨.eNotReady, 0⟩ :=
  ⟨rfl, next_of_stepped (f := State.xfer) (by decide), next_of_after (f := State.resp) (by decide)⟩

theorem witness_PhaseOnlyByConstructOrFailure :
    (∃ t, exec (.construct .landscape) State.reset = .next t ∧ t.phase = .p9) ∧
    ∃ t, exec .dispon { ready with busFails := [26] } = .next t ∧ t.phase = .failed :=
  ⟨next_of_after (f := State.phase) (by decide), next_of_after (f := State.phase) (by decide)⟩

theorem witness_EngineStateFrame :
    (∃ t, exec (.drawPixel565 1 1 1) ready = .next t ∧ t.xfer = 32) ∧
    (∀ on, Instr.drawPixel565 1 1 1 ≠ .setBacklight on) ∧
    ∀ o, Instr.setBacklight true ≠ .construct o ∧ Instr.setBacklight true ≠ .setOrientation o ∧
      Instr.setBacklight true ≠ .orient o :=
  ⟨next_of_after (f := State.xfer) (by decide), fun _ h => (by cases h),
    fun _ => ⟨fun h => (by cases h), fun h => (by cases h), fun h => (by cases h)⟩⟩

end Sys2Proof.Tests
end

section
/-! The panel receiver, one unit at a time: what a command byte does to the command latch, what a
complete parameter list leaves, and the invariant of the frame memory and the cursor that every
received event keeps (spec 10 R43, 41 R131 to R136, 42 R144 to R149). -/

namespace Sys2Proof

/-! ## What R8 asks of the configuration, by name -/

theorem Cfg.wf.nodup {cfg : Cfg} (hwf : cfg.wf) : cfg.opcodes.Nodup := hwf.1

theorem Cfg.wf.levels {cfg : Cfg} (hwf : cfg.wf) : cfg.dcDataLevel ≠ cfg.dcCmdLevel := hwf.2.1.symm

theorem Cfg.wf.pixset {cfg : Cfg} (hwf : cfg.wf) : cfg.payPixset ≠ [] := hwf.2.2.1.1

end Sys2Proof

namespace Sys2Proof.Machine

/-! ## Command bytes -/

theorem opcode_injective {cfg : Cfg} (hwf : cfg.opcodes.Nodup) {c d : WireCmd}
    (h : cfg.opcode c = cfg.opcode d) : c = d := by
  have hc := command?_opcode cfg hwf c
  rw [h, command?_opcode cfg hwf d] at hc
  exact (Option.some.inj hc).symm

/-- A command that takes parameters has no effect of its own at its command byte (R132). -/
theorem commandByte_of_expected {cfg : Cfg} (hwf : cfg.opcodes.Nodup) {c : WireCmd}
    (hc : cfg.expected c ≠ 0) (n : Nat) (p : Panel) :
    p.commandByte cfg n (cfg.opcode c) = p.beginCommand cfg (cfg.opcode c) := by
  have hk := command?_opcode cfg hwf c
  cases c <;> simp [Cfg.expected] at hc <;> simp [Panel.commandByte, hk]

/-- No command byte leaves a parameter behind (R132). -/
@[simp] theorem commandByte_par (cfg : Cfg) (n : Nat) (p : Panel) (b : Byte) :
    (p.commandByte cfg n b).par = [] := by
  simp only [Panel.commandByte]
  split <;> rfl

/-- Only the software reset forgets the pixel format at a command byte (R132, R137). -/
theorem commandByte_pixfmt {cfg : Cfg} (n : Nat) (p : Panel) {b : Byte}
    (hb : cfg.command? b ≠ some .swreset) : (p.commandByte cfg n b).pixfmt = p.pixfmt := by
  simp only [Panel.commandByte]
  split
  · exact absurd ‹_› hb
  all_goals rfl

/-- A command byte arms the panel only if it is the memory-write command (R132, R147). -/
theorem commandByte_armed {cfg : Cfg} (hwf : cfg.opcodes.Nodup) (n : Nat) (p : Panel) {b : Byte}
    (hb : cfg.command? b ≠ some .ramwr) : (p.commandByte cfg n b).armed = false := by
  have hne : (b == cfg.opcRamwr) = false := by
    rw [beq_eq_false_iff_ne]
    rintro rfl
    exact hb (command?_opcode cfg hwf .ramwr)
  simp only [Panel.commandByte]
  split
  · rfl
  all_goals exact hne

theorem incomplete_of_par_nil (cfg : Cfg) {p : Panel} (hp : p.par = []) : p.incomplete cfg = false := by
  unfold Panel.incomplete
  split <;> simp [hp]

theorem incomplete_of_complete {cfg : Cfg} {p : Panel} {b : Byte} {c : WireCmd} (hb : p.cmd = some b)
    (hc : cfg.command? b = some c) (hlen : p.par.length = cfg.expected c) :
    p.incomplete cfg = false := by
  simp [Panel.incomplete, hb, hc, hlen]

/-! ## Parameter bytes -/

theorem parameterByte_of_more {cfg : Cfg} {p : Panel} {b : Byte} {c : WireCmd} (hb : p.cmd = some b)
    (hc : cfg.command? b = some c) (hlen : p.par.length + 1 < cfg.expected c) (x : Byte) :
    p.parameterByte cfg x = { p with par := p.par ++ [x] } := by
  have hfew : ¬ cfg.expected c < p.par.length + 1 := by omega
  have hopen : ¬ p.par.length + 1 = cfg.expected c := by omega
  simp [Panel.parameterByte, hb, hc, hfew, hopen]

theorem parameterByte_of_last {cfg : Cfg} {p : Panel} {b : Byte} {c : WireCmd} (hb : p.cmd = some b)
    (hc : cfg.command? b = some c) (hlen : p.par.length + 1 = cfg.expected c) (x : Byte) :
    p.parameterByte cfg x = Panel.latch { p with par := p.par ++ [x] } b (p.par ++ [x]) c := by
  simp [Panel.parameterByte, hb, hc, hlen]

/-- The rest of a parameter list, up to the expected count, latches the command (R134). -/
theorem foldl_dataByte_complete {cfg : Cfg} {p : Panel} {b : Byte} {c : WireCmd} {l : List Byte}
    (w h : Nat) (ha : p.armed = false) (hb : p.cmd = some b) (hc : cfg.command? b = some c)
    (hl : l ≠ []) (hlen : p.par.length + l.length = cfg.expected c) :
    l.foldl (Panel.dataByte cfg w h) p = Panel.latch { p with par := p.par ++ l } b (p.par ++ l) c := by
  induction l generalizing p with
  | nil => exact absurd rfl hl
  | cons x l ih =>
    have hx : p.dataByte cfg w h x = p.parameterByte cfg x := by simp [Panel.dataByte, ha]
    rw [List.foldl_cons, hx]
    by_cases hnil : l = []
    · subst hnil
      exact parameterByte_of_last hb hc hlen x
    · have hpos := List.length_pos_iff.2 hnil
      rw [List.length_cons] at hlen
      rw [parameterByte_of_more hb hc (by omega),
        ih (p := { p with par := p.par ++ [x] }) ha hb hnil (by simp; omega)]
      simp

theorem parameterByte_armed (cfg : Cfg) (p : Panel) (b : Byte) :
    (p.parameterByte cfg b).armed = p.armed := by
  simp only [Panel.parameterByte]
  split
  · rfl
  · split
    · rfl
    · split
      · rfl
      · split
        · rename_i k _ _ _
          cases k <;> rfl
        · rfl

/-! ## Pixels -/

/-- A pixel leaves the command latch and the pixel format alone (R148). -/
theorem writePixel_latch (cfg : Cfg) (w h : Nat) (p : Panel) (c : Color565) :
    (p.writePixel cfg w h c).cmd = p.cmd ∧ (p.writePixel cfg w h c).par = p.par ∧
    (p.writePixel cfg w h c).pixfmt = p.pixfmt := by
  have hadv (q : Panel) :
      q.advance.cmd = q.cmd ∧ q.advance.par = q.par ∧ q.advance.pixfmt = q.pixfmt := by
    unfold Panel.advance
    split
    · exact ⟨rfl, rfl, rfl⟩
    · split <;> exact ⟨rfl, rfl, rfl⟩
  rcases writePixel_cases cfg w h p c with ⟨_, e⟩ | ⟨_, _, e⟩ | ⟨_, _, e⟩ <;> rw [e]
  · exact ⟨rfl, rfl, rfl⟩
  · exact hadv _
  · exact ⟨rfl, rfl, rfl⟩

theorem dataWord_latch (cfg : Cfg) (w h : Nat) (p : Panel) (c : Word16) :
    (p.dataWord cfg w h c).cmd = p.cmd ∧ (p.dataWord cfg w h c).par = p.par ∧
    (p.dataWord cfg w h c).pixfmt = p.pixfmt := by
  unfold Panel.dataWord
  split
  · split
    · exact writePixel_latch cfg w h p c
    · exact ⟨rfl, rfl, rfl⟩
  · exact ⟨rfl, rfl, rfl⟩

/-! ## The invariant of frame memory and cursor -/

/-- The panel's part of the machine's invariant under the logical size `w` by `h`: frame memory in
canonical form, the cursor inside a proper window while armed, and every valued pixel on the screen. -/
structure Panel.Sound (w h : Nat) (p : Panel) : Prop where
  mem : Memory.wf p.fm
  cursor : p.undef = false → p.armed = true → p.sc.val.toNat ≤ p.ec.val.toNat →
    p.sp.val.toNat ≤ p.ep.val.toNat →
    (p.sc.val.toNat ≤ p.cx.val.toNat ∧ p.cx.val.toNat ≤ p.ec.val.toNat) ∧
    (p.sp.val.toNat ≤ p.cy.val.toNat ∧ p.cy.val.toNat ≤ p.ep.val.toNat)
  onScreen : p.undef = false → ∀ e ∈ p.fm, e.1 % 65536 < w ∧ e.1 / 65536 < h

theorem sound_of_undef {w h : Nat} {p : Panel} (hm : Memory.wf p.fm) (hu : p.undef = true) :
    p.Sound w h where
  mem := hm
  cursor hu' := by simp [hu] at hu'
  onScreen hu' := by simp [hu] at hu'

theorem sound_of_fm_nil {w h : Nat} {p : Panel} (hfm : p.fm = []) (ha : p.armed = false) :
    p.Sound w h where
  mem := hfm ▸ memory_wf_nil
  cursor _ ha' := by simp [ha] at ha'
  onScreen _ e he := by simp [hfm] at he

/-- A disarmed panel needs nothing of its cursor: it is sound when its pixels are those of a sound
panel, or none. -/
theorem Panel.Sound.of_disarmed {w h : Nat} {p q : Panel} (hp : p.Sound w h) (ha : q.armed = false)
    (hfm : q.fm = p.fm ∨ q.fm = []) (hu : p.undef = true → q.undef = true) : q.Sound w h := by
  rcases hfm with hfm | hfm
  · refine ⟨hfm ▸ hp.mem, fun _ ha' => by simp [ha] at ha', fun hq e he => hp.onScreen ?_ e (hfm ▸ he)⟩
    by_contra hpu
    simp [hu (by simpa using hpu)] at hq
  · exact sound_of_fm_nil hfm ha

theorem reset_sound (w h n : Nat) : (Panel.reset n).Sound w h := sound_of_fm_nil rfl rfl

/-- `P.undef` stays set at every command byte but the software reset (R43). -/
theorem commandByte_undef_of_ne {cfg : Cfg} (n : Nat) {p : Panel} {b : Byte}
    (hb : cfg.command? b ≠ some .swreset) (hp : p.undef = true) : (p.commandByte cfg n b).undef = true :=
  (commandByte_undef cfg n p b hp).resolve_right fun h => hb h.1

theorem commandByte_sound {cfg : Cfg} (hwf : cfg.opcodes.Nodup) {w h : Nat} (n : Nat) {p : Panel}
    (b : Byte) (hp : p.Sound w h) : (p.commandByte cfg n b).Sound w h := by
  by_cases hreset : cfg.command? b = some .swreset
  · have e : p.commandByte cfg n b = Panel.reset n := by simp [Panel.commandByte, hreset]
    exact e ▸ reset_sound w h n
  by_cases harm : cfg.command? b = some .ramwr
  · have e : p.commandByte cfg n b = (p.beginCommand cfg b).setCursor := by
      simp [Panel.commandByte, harm]
    rw [e]
    refine ⟨hp.mem, fun _ _ hx hy => ⟨⟨le_refl _, hx⟩, le_refl _, hy⟩, fun hu => hp.onScreen ?_⟩
    simp only [setCursor_undef, Panel.beginCommand, Bool.or_eq_false_iff] at hu
    exact hu.1
  · exact hp.of_disarmed (commandByte_armed hwf n p harm)
      ((commandByte_fm cfg n p b).imp_right fun e => by rw [e, reset_fm])
      (commandByte_undef_of_ne n hreset)

/-- Below another word the successor does not wrap. -/
theorem toNat_succ_of_lt {x y : Word16} (h : x.toNat < y.toNat) : (x + 1).toNat = x.toNat + 1 := by
  bv_omega

/-- The cursor's move keeps it inside the window: it is only raised below the bound (R148). -/
theorem advance_sound {w h : Nat} {p : Panel} (hp : p.Sound w h) : p.advance.Sound w h := by
  refine ⟨by simpa using hp.mem, ?_, by simpa using hp.onScreen⟩
  have hin := hp.cursor
  unfold Panel.advance
  split
  · rename_i hlt
    intro hu ha hx hy
    obtain ⟨⟨hlo, hhi⟩, hrow⟩ := hin hu ha hx hy
    exact ⟨⟨(hlo.trans (Nat.le_succ _)).trans_eq (toNat_succ_of_lt hlt).symm,
      (toNat_succ_of_lt hlt).trans_le hlt⟩, hrow⟩
  · split
    · rename_i hlt
      intro hu ha hx hy
      obtain ⟨-, hlo, hhi⟩ := hin hu ha hx hy
      exact ⟨⟨le_refl _, hx⟩, (hlo.trans (Nat.le_succ _)).trans_eq (toNat_succ_of_lt hlt).symm,
        (toNat_succ_of_lt hlt).trans_le hlt⟩
    · intro _ _ hx hy
      exact ⟨⟨le_refl _, hx⟩, le_refl _, hy⟩

/-- Under a valid window the cursor, and so the pixel written, lies on the screen (R149). -/
theorem Panel.Sound.cursor_onScreen {cfg : Cfg} {w h : Nat} {p : Panel} (hp : p.Sound w h)
    (hu : p.undef = false) (ha : p.armed = true) (hw : p.windowOk cfg w h = true) :
    p.cx.val.toNat < w ∧ p.cy.val.toNat < h := by
  simp only [Panel.windowOk, Bool.and_eq_true, decide_eq_true_eq] at hw
  obtain ⟨⟨⟨⟨⟨-, hx⟩, hxw⟩, hy⟩, hyh⟩, -⟩ := hw
  obtain ⟨⟨-, hcx⟩, -, hcy⟩ := hp.cursor hu ha hx hy
  exact ⟨hcx.trans_lt hxw, hcy.trans_lt hyh⟩

theorem writePixel_sound (cfg : Cfg) {w h : Nat} {p : Panel} (c : Color565) (hp : p.Sound w h)
    (ha : p.armed = true) : (p.writePixel cfg w h c).Sound w h := by
  rcases writePixel_cases cfg w h p c with ⟨_, e⟩ | ⟨hu, hw, e⟩ | ⟨_, _, e⟩ <;> rw [e]
  · exact hp
  · refine advance_sound ⟨memory_write_wf _ _ _ hp.mem, hp.cursor, fun _ d hd => ?_⟩
    rcases memory_write_keys _ _ _ d hd with hkey | hold
    · have hcol := p.cx.val.isLt
      have hcur := hp.cursor_onScreen hu ha hw
      rw [hkey, pixelKey]
      omega
    · exact hp.onScreen hu d hold
  · exact sound_of_undef hp.mem rfl

theorem dataByte_sound (cfg : Cfg) {w h : Nat} {p : Panel} (b : Byte) (hp : p.Sound w h) :
    (p.dataByte cfg w h b).Sound w h := by
  by_cases ha : p.armed = true
  · unfold Panel.dataByte
    rw [if_pos ha]
    split
    · exact ⟨hp.mem, hp.cursor, hp.onScreen⟩
    · exact writePixel_sound cfg _ (p := { p with half := none }) ⟨hp.mem, hp.cursor, hp.onScreen⟩ ha
  · have e : p.dataByte cfg w h b = p.parameterByte cfg b := by simp [Panel.dataByte, ha]
    refine hp.of_disarmed ?_ ?_ (dataByte_undef cfg w h p b) <;> rw [e]
    · rw [parameterByte_armed]
      simpa using ha
    · exact parameterByte_fm cfg p b

theorem dataWord_sound (cfg : Cfg) {w h : Nat} {p : Panel} (c : Word16) (hp : p.Sound w h) :
    (p.dataWord cfg w h c).Sound w h := by
  unfold Panel.dataWord
  split
  · split
    · exact writePixel_sound cfg c hp ‹_›
    · exact sound_of_undef hp.mem rfl
  · exact sound_of_undef hp.mem rfl

/-- Every event the panel receives keeps its part of the invariant (R61, R77, R147, R148). -/
theorem receive_sound {cfg : Cfg} (hwf : cfg.opcodes.Nodup) (dc : Drive) {w h : Nat} (n : Nat) (e : Event)
    {p : Panel} (hp : p.Sound w h) : (p.receive cfg dc w h n e).Sound w h := by
  have hundefine (q : Panel) (hq : q.Sound w h) : q.undefine.Sound w h := sound_of_undef hq.mem rfl
  rcases e with ⟨line, v⟩ | _ | l | l | _
  · cases line
    · exact hp
    · cases v
      · exact reset_sound w h n
      · exact hp
    · exact hp
  · exact hp
  · simp only [Panel.receive]
    split
    · exact hundefine p hp
    · exact foldl_keeps (Panel.Sound w h) _ (fun _ b hq => commandByte_sound hwf n b hq) l p hp
    · exact foldl_keeps (Panel.Sound w h) _ (fun _ b hq => dataByte_sound cfg b hq) l p hp
  · simp only [Panel.receive]
    split
    · exact hundefine p hp
    · exact foldl_keeps (Panel.Sound w h) (fun q _ => q.undefine) (fun q _ hq => hundefine q hq) l p hp
    · exact foldl_keeps (Panel.Sound w h) _ (fun _ c hq => dataWord_sound cfg c hq) l p hp
  · exact hp

/-! ## The sticky bit -/

/-- A batch of command bytes without the software reset keeps `P.undef` set (R43). -/
theorem foldl_commandByte_undef {cfg : Cfg} (n : Nat) {l : List Byte} {p : Panel}
    (hl : cfg.opcSwreset ∉ l) (hp : p.undef = true) :
    (l.foldl (Panel.commandByte cfg n) p).undef = true := by
  induction l generalizing p with
  | nil => exact hp
  | cons b l ih =>
    rw [List.mem_cons, not_or] at hl
    obtain ⟨hb, hl⟩ := hl
    exact ih hl (commandByte_undef_of_ne n (fun h => hb (opcode_of_command? cfg b .swreset h)) hp)

/-- What the panel receives clears `P.undef` only by a panel reset: the reset line driven low, or the
software-reset opcode in command mode (R43, R137). -/
theorem receive_undef {cfg : Cfg} {dc : Drive} (w h n : Nat) {e : Event} {p : Panel}
    (hpin : e ≠ .pin .rst .low)
    (hcmd : ∀ l, e = .write8 l → lineMode cfg dc = .command → cfg.opcSwreset ∉ l)
    (hp : p.undef = true) : (p.receive cfg dc w h n e).undef = true := by
  rcases e with ⟨line, v⟩ | _ | l | l | _
  · cases line
    · exact hp
    · cases v
      · exact absurd rfl hpin
      · exact hp
    · exact hp
  · exact hp
  · simp only [Panel.receive]
    split
    · rfl
    · exact foldl_commandByte_undef n (hcmd l rfl ‹_›) hp
    · exact foldl_keeps (fun q => q.undef = true) _ (fun q b hq => dataByte_undef cfg w h q b hq) l p hp
  · simp only [Panel.receive]
    split
    · rfl
    · exact foldl_keeps (fun q => q.undef = true) (fun q _ => q.undefine) (fun _ _ _ => rfl) l p hp
    · exact foldl_keeps (fun q => q.undef = true) _ (fun q c hq => dataWord_undef cfg w h q c hq) l p hp
  · exact hp

end Sys2Proof.Machine
end

section
/-! Running actions: what one action can do, a property that every action of a list keeps, the state
after one bus write with its mode-select level (41 R125 to R127) and after a whole command frame. -/

namespace Sys2Proof.Machine

/-! ## One action, and a list of them -/

/-- What an action that ended or failed has made of the state `s`. -/
inductive ActResult (s : State) : Act → State → Prop
  | pin (line : Line) (v : Level) : ActResult s (.pin line v) (emit (.pin line v) s)
  | width (w : BusWidth) : ActResult s (.width w) (setWidth w s)
  | delay (ms : Nat) : ActResult s (.delay ms) (emit (.delay ms) s)
  | sent (b : Batch) : ActResult s (.write b) (emit (batchEvent b) { s with xfer := s.xfer + 1 })
  | lost (b : Batch) : ActResult s (.write b) { s with xfer := s.xfer + 1 }
  | screen (o : Orientation) : ActResult s (.screen o) (setScreen o s)
  | phase (p : Phase) : ActResult s (.phase p) { s with phase := p }

theorem runAct_result {a : Act} {s t : State} (h : runAct a s = .done t ∨ runAct a s = .busFailure t) :
    ActResult s a t := by
  rcases h with h | h
  · cases a with
    | write b =>
      rw [runAct] at h
      rcases busWriteRun_cases b s with ⟨_, _, e⟩ | ⟨_, _, e⟩ | ⟨_, e⟩ <;> rw [e] at h <;> cases h
      exact .sent b
    | _ =>
      cases h
      constructor
  · obtain ⟨b, rfl, _, _, rfl⟩ := runAct_busFailure a s t h
    exact .lost b

/-- A relation kept by every action that stands in a list is kept by the list. -/
theorem runActs_keeps_of_mem (R : State → State → Prop) (hrefl : ∀ s, R s s)
    (htrans : ∀ s t u, R s t → R t u → R s u) {l : List Act}
    (hact : ∀ a ∈ l, ∀ s t, runAct a s = .done t ∨ runAct a s = .busFailure t → R s t)
    {s t : State} (h : runActs l s = .done t ∨ runActs l s = .busFailure t) : R s t := by
  induction l generalizing s with
  | nil =>
    simp only [runActs_nil, Run.done.injEq, reduceCtorEq, or_false] at h
    exact h ▸ hrefl s
  | cons a l ih =>
    have ha := hact a List.mem_cons_self s
    rw [runActs_cons] at h
    cases hr : runAct a s with
    | done u =>
      rw [hr] at h
      exact htrans _ _ _ (ha u (.inl hr)) (ih (fun b hb => hact b (List.mem_cons_of_mem _ hb)) h)
    | busFailure u =>
      simp only [hr, reduceCtorEq, Run.busFailure.injEq, false_or] at h
      exact h ▸ ha u (.inr hr)
    | refused r => simp [hr] at h

theorem runActs_append_done_iff {l1 l2 : List Act} {s t : State} :
    runActs (l1 ++ l2) s = .done t ↔ ∃ u, runActs l1 s = .done u ∧ runActs l2 u = .done t := by
  rw [runActs_append]
  cases runActs l1 s <;> simp

/-! ## From a condition to a condition -/

/-- Whenever the actions `l`, run from a state with `P`, come to their end, they end in a state
with `Q`. -/
def Leads (P : State → Prop) (l : List Act) (Q : State → Prop) : Prop :=
  ∀ s t, P s → runActs l s = .done t → Q t

theorem Leads.append {P Q R : State → Prop} {l1 l2 : List Act} (h1 : Leads P l1 Q)
    (h2 : Leads Q l2 R) : Leads P (l1 ++ l2) R := by
  intro s t hs h
  obtain ⟨u, hu, ht⟩ := runActs_append_done_iff.1 h
  exact h2 u t (h1 s u hs hu) ht

theorem Leads.nil (P : State → Prop) : Leads P [] P := by
  intro s t hs h
  simp only [runActs_nil, Run.done.injEq] at h
  exact h ▸ hs

theorem Leads.of_mem {P : State → Prop} {l : List Act}
    (h : ∀ a ∈ l, ∀ s t, P s → runAct a s = .done t ∨ runAct a s = .busFailure t → P t) :
    Leads P l P := fun _ _ hs ht =>
  runActs_keeps_of_mem (fun s t => P s → P t) (fun _ => id) (fun _ _ _ h1 h2 => h2 ∘ h1)
    (fun a ha _ _ hst hs => h a ha _ _ hs hst) (.inl ht) hs

theorem Leads.flatMap {α : Type} {P : State → Prop} {f : α → List Act} (l : List α)
    (h : ∀ a, Leads P (f a) P) : Leads P (l.flatMap f) P := by
  induction l with
  | nil => exact Leads.nil P
  | cons a l ih => exact (h a).append ih

/-! ## What actions leave alone -/

/-- The state with everything blanked that the mode-select line, a width event, a delay or a bus write
can change: two states agree in all other fields exactly when these are equal. -/
def State.unwired (s : State) : State :=
  { s with busWidth := .w8, dc := .undriven, xfer := 0, trace := [], panel := Panel.atPowerOn }

/-- The actions that only talk to the panel: they drive neither the reset line nor the backlight, and
write neither the logical size nor the phase. -/
def Act.plain : Act → Bool
  | .pin .dc _ => true
  | .pin .rst _ => false
  | .pin .bl _ => false
  | .width _ => true
  | .delay _ => true
  | .write _ => true
  | .screen _ => false
  | .phase _ => false

theorem emit_batch_unwired (b : Batch) (s : State) : (emit (batchEvent b) s).unwired = s.unwired := by
  cases b <;> rfl

/-- Plain actions leave everything but the wire as it is. -/
theorem runActs_unwired {l : List Act} (hl : ∀ a ∈ l, a.plain = true) {s t : State}
    (h : runActs l s = .done t ∨ runActs l s = .busFailure t) : t.unwired = s.unwired := by
  refine runActs_keeps_of_mem (fun s t => t.unwired = s.unwired) (fun _ => rfl)
    (fun _ _ _ h1 h2 => h2.trans h1) (fun a ha s t hst => ?_) h
  have hplain := hl a ha
  cases runAct_result hst with
  | pin line v =>
    cases line <;> simp only [Act.plain, Bool.false_eq_true] at hplain
    rfl
  | sent b => exact emit_batch_unwired b _
  | width | delay | lost => rfl
  | screen | phase => cases hplain

/-- The state with everything blanked that some action can change: two states agree in the configuration,
the lock, the backlight flag, the construction parameters, the host's ports, the response and the bus
oracle exactly when these are equal. -/
def State.given (s : State) : State :=
  { s.unwired with
    phase := .p0, width := 0, height := 0, orient := .portrait, rst := .undriven, bl := .undriven }

theorem emit_given (e : Event) (s : State) : (emit e s).given = s.given := by
  rcases e with ⟨line, _⟩ | _ | _ | _ | _
  · cases line <;> rfl
  all_goals rfl

/-- What no action writes. -/
theorem runActs_given {l : List Act} {s t : State}
    (h : runActs l s = .done t ∨ runActs l s = .busFailure t) : t.given = s.given := by
  refine runActs_keeps (fun s t => t.given = s.given) (fun _ => rfl) (fun _ _ _ h1 h2 => h2.trans h1)
    (fun a s t hst => ?_) l s t h
  cases runAct_result hst with
  | pin | sent => exact emit_given _ _
  | width | delay | lost | screen | phase => rfl

theorem runActs_cfg {l : List Act} {s t : State}
    (h : runActs l s = .done t ∨ runActs l s = .busFailure t) : t.cfg = s.cfg :=
  (congrArg State.cfg (runActs_given h) :)

/-- Every list of actions keeps the frame memory in canonical form (R61). -/
theorem runActs_fm_wf (l : List Act) {s t : State}
    (h : runActs l s = .done t ∨ runActs l s = .busFailure t) (hs : Memory.wf s.panel.fm) :
    Memory.wf t.panel.fm := by
  refine runActs_keeps (fun s t => Memory.wf s.panel.fm → Memory.wf t.panel.fm) (fun _ => id)
    (fun _ _ _ h1 h2 => h2 ∘ h1) (fun a s t hst hs => ?_) l s t h hs
  cases runAct_result hst with
  | pin | sent => simpa using receive_fm_wf _ _ _ _ _ _ _ hs
  | width | delay | lost | screen | phase => exact hs

/-! ## One transfer: the mode-select line, then one batch -/

/-- The state after a successful transfer of the batch `b` under the mode-select level `level`. -/
def afterTransfer (level : Level) (b : Batch) (s : State) : State :=
  emit (batchEvent b) { emit (.pin .dc level) s with xfer := s.xfer + 1 }

theorem runActs_transfer_eq (level : Level) (b : Batch) (s : State) :
    runActs [.pin .dc level, .write b] s = busWriteRun b (emit (.pin .dc level) s) := by
  simp only [runActs_cons, runAct, runActs_nil]
  cases busWriteRun b (emit (.pin .dc level) s) <;> rfl

theorem runActs_transfer {level : Level} {b : Batch} {s : State} (hw : s.busWidth = batchWidth b)
    (hok : s.busOk s.xfer = true) :
    runActs [.pin .dc level, .write b] s = .done (afterTransfer level b s) := by
  rw [runActs_transfer_eq, busWriteRun, if_pos (by simpa using hw),
    if_pos (by simpa [State.busOk] using hok)]
  simp [afterTransfer]

theorem transfer_done {level : Level} {b : Batch} {s t : State}
    (h : runActs [.pin .dc level, .write b] s = .done t) :
    s.busWidth = batchWidth b ∧ t = afterTransfer level b s := by
  rw [runActs_transfer_eq] at h
  rcases busWriteRun_cases b (emit (.pin .dc level) s) with ⟨hw, _, e⟩ | ⟨_, _, e⟩ | ⟨_, e⟩ <;>
    rw [e] at h <;> cases h
  exact ⟨by simpa using hw, by simp [afterTransfer]⟩

@[simp] theorem afterTransfer_cfg (level : Level) (b : Batch) (s : State) :
    (afterTransfer level b s).cfg = s.cfg := by simp [afterTransfer]

@[simp] theorem afterTransfer_busWidth (level : Level) (b : Batch) (s : State) :
    (afterTransfer level b s).busWidth = s.busWidth := by simp [afterTransfer]

@[simp] theorem afterTransfer_width (level : Level) (b : Batch) (s : State) :
    (afterTransfer level b s).width = s.width := by simp [afterTransfer]

@[simp] theorem afterTransfer_height (level : Level) (b : Batch) (s : State) :
    (afterTransfer level b s).height = s.height := by simp [afterTransfer]

@[simp] theorem afterTransfer_resp (level : Level) (b : Batch) (s : State) :
    (afterTransfer level b s).resp = s.resp := by simp [afterTransfer]

@[simp] theorem afterTransfer_trace (level : Level) (b : Batch) (s : State) :
    (afterTransfer level b s).trace = s.trace ++ [.pin .dc level, batchEvent b] := by
  simp [afterTransfer]

@[simp] theorem afterTransfer_xfer (level : Level) (b : Batch) (s : State) :
    (afterTransfer level b s).xfer = s.xfer + 1 := by simp [afterTransfer]

theorem afterTransfer_panel (level : Level) (b : Batch) (s : State) :
    (afterTransfer level b s).panel =
      s.panel.receive s.cfg (.driven level) s.width s.height (s.trace.length + 1) (batchEvent b) := by
  simp [afterTransfer, Panel.receive]

theorem busWrites_append (es es' : List Event) :
    busWrites (es ++ es') = busWrites es + busWrites es' := by
  induction es with
  | nil => simp [busWrites]
  | cons e es ih => cases e <;> simp [busWrites, ih] <;> omega

theorem State.sent.append {s t u : State} {es es' : List Event} {l l' : Level} (h1 : s.sent t es l)
    (h2 : t.sent u es' l') : s.sent u (es ++ es') l' := by
  obtain ⟨htr, hx, _, hw⟩ := h1
  obtain ⟨htr', hx', hdc', hw'⟩ := h2
  refine ⟨by rw [htr', htr, List.append_assoc], by rw [hx', hx, busWrites_append, Nat.add_assoc],
    hdc', ?_⟩
  unfold State.onlyWire at *
  rw [hw] at hw'
  exact hw'

theorem afterTransfer_sent (level : Level) (b : Batch) (s : State) :
    s.sent (afterTransfer level b s) [.pin .dc level, batchEvent b] level := by
  refine ⟨afterTransfer_trace level b s, ?_, ?_, ?_⟩ <;> cases b <;> rfl

theorem State.writesOk.head {s : State} {n : Nat} (h : s.writesOk (n + 1)) : s.busOk s.xfer = true :=
  h s.xfer (le_refl _) (by omega)

theorem State.writesOk.afterTransfer {s : State} {n : Nat} (h : s.writesOk (n + 1)) (level : Level)
    (b : Batch) : (afterTransfer level b s).writesOk n := by
  intro k hlo hhi
  rw [afterTransfer_xfer] at hlo hhi
  have hk := h k (by omega) (by omega)
  simpa [State.busOk, Machine.afterTransfer] using hk

/-! ## How the panel receives a transfer -/

theorem lineMode_eq_command {cfg : Cfg} {level : Level} (h : lineMode cfg (.driven level) = .command) :
    level = cfg.dcCmdLevel := by
  by_contra hne
  simp only [lineMode, if_neg hne] at h
  split at h <;> cases h

@[simp] theorem lineMode_command (cfg : Cfg) : lineMode cfg (.driven cfg.dcCmdLevel) = .command := by
  simp [lineMode]

theorem lineMode_data {cfg : Cfg} (hwf : cfg.wf) : lineMode cfg (.driven cfg.dcDataLevel) = .data := by
  simp [lineMode, hwf.levels]

theorem sendCommand_panel (op : Byte) (s : State) :
    (afterTransfer s.cfg.dcCmdLevel (.bytes [op]) s).panel =
      s.panel.commandByte s.cfg (s.trace.length + 1) op := by
  simp [afterTransfer_panel, Panel.receive, batchEvent]

theorem sendData8_panel {s : State} (hwf : s.cfg.wf) (l : List Byte) :
    (afterTransfer s.cfg.dcDataLevel (.bytes l) s).panel =
      l.foldl (Panel.dataByte s.cfg s.width s.height) s.panel := by
  simp [afterTransfer_panel, Panel.receive, batchEvent, lineMode_data hwf]

theorem sendData16_panel {s : State} (hwf : s.cfg.wf) (l : List Word16) :
    (afterTransfer s.cfg.dcDataLevel (.words l) s).panel =
      l.foldl (Panel.dataWord s.cfg s.width s.height) s.panel := by
  simp [afterTransfer_panel, Panel.receive, batchEvent, lineMode_data hwf]

/-! ## One command frame with its parameters -/

/-- The state after a command byte and a list of parameter bytes (R90, R125, R126). -/
def afterFrame (op : Byte) (l : List Byte) (s : State) : State :=
  afterTransfer s.cfg.dcDataLevel (.bytes l) (afterTransfer s.cfg.dcCmdLevel (.bytes [op]) s)

theorem runActs_frame {op : Byte} {l : List Byte} {s : State} (hw : s.busWidth = .w8)
    (hok : s.writesOk 2) :
    runActs (sendCommandActs s.cfg op ++ sendData8Acts s.cfg l) s = .done (afterFrame op l s) := by
  have hcmd : runActs (sendCommandActs s.cfg op) s =
      .done (afterTransfer s.cfg.dcCmdLevel (.bytes [op]) s) :=
    runActs_transfer hw hok.head
  rw [runActs_append_done hcmd]
  exact runActs_transfer (b := .bytes l) (by simpa [batchWidth] using hw) (hok.afterTransfer _ _).head

theorem frame_done {op : Byte} {l : List Byte} {s t : State}
    (h : runActs (sendCommandActs s.cfg op ++ sendData8Acts s.cfg l) s = .done t) :
    t = afterFrame op l s := by
  obtain ⟨u, hu, ht⟩ := runActs_append_done_iff.1 h
  obtain ⟨_, rfl⟩ := transfer_done hu
  exact (transfer_done ht).2

theorem afterFrame_sent (op : Byte) (l : List Byte) (s : State) :
    s.sent (afterFrame op l s) (cmdEvents s.cfg op ++ dataEvents s.cfg l) s.cfg.dcDataLevel :=
  (afterTransfer_sent _ _ s).append (afterTransfer_sent _ _ _)

/-- A frame with the expected number of parameters latches its command (R132, R134). -/
theorem afterFrame_panel {s : State} (hwf : s.cfg.wf) {c : WireCmd} {l : List Byte} (hl : l ≠ [])
    (hlen : l.length = s.cfg.expected c) :
    (afterFrame (s.cfg.opcode c) l s).panel =
      Panel.latch
        { s.panel with
          undef := s.panel.undef || s.panel.incomplete s.cfg, cmd := some (s.cfg.opcode c), par := l
          half := none, armed := false }
        (s.cfg.opcode c) l c := by
  have hnodup := hwf.nodup
  have hk := command?_opcode s.cfg hnodup c
  have hexp : s.cfg.expected c ≠ 0 := hlen ▸ (List.length_pos_iff.2 hl).ne'
  have harm : (s.cfg.opcode c == s.cfg.opcRamwr) = false := by
    rw [beq_eq_false_iff_ne]
    intro h
    exact hexp (opcode_injective (d := .ramwr) hnodup h ▸ rfl)
  have hcmd := commandByte_of_expected hnodup hexp (s.trace.length + 1) s.panel
  have hfold := sendData8_panel (s := afterTransfer s.cfg.dcCmdLevel (.bytes [s.cfg.opcode c]) s)
    (by simpa using hwf) l
  rw [afterTransfer_cfg, sendCommand_panel, hcmd] at hfold
  rw [afterFrame, hfold,
    foldl_dataByte_complete _ _ harm rfl hk hl (by simpa [Panel.beginCommand] using hlen)]
  simp [Panel.beginCommand, harm]

end Sys2Proof.Machine
end

section
/-! Instructions as lists of actions: the list each one runs once it is accepted, everything an
instruction that answers a next state can have done with it, and what the lists are made of. -/

namespace Sys2Proof.Machine

/-! ## The program of an instruction -/

/-- The actions an instruction runs once it is accepted, read from the state it is accepted on.
SET_BACKLIGHT and TO_COLOR565 run none: `ExecResult` gives their effect apart. -/
def program (s : State) : Instr → List Act
  | .swreset => frameActs s.cfg s.cfg.opcSwreset []
  | .slpout => frameActs s.cfg s.cfg.opcSlpout []
  | .gamset payload => frameActs s.cfg s.cfg.opcGamset payload
  | .dispoff => frameActs s.cfg s.cfg.opcDispoff []
  | .dispon => frameActs s.cfg s.cfg.opcDispon []
  | .caset left right => frameActs s.cfg s.cfg.opcCaset (be16 left ++ be16 right)
  | .paset top bottom => frameActs s.cfg s.cfg.opcPaset (be16 top ++ be16 bottom)
  | .ramwr => frameActs s.cfg s.cfg.opcRamwr []
  | .madctl b => frameActs s.cfg s.cfg.opcMadctl [b]
  | .pixset payload => frameActs s.cfg s.cfg.opcPixset payload
  | .frmctr payload => frameActs s.cfg s.cfg.opcFrmctr payload
  | .dfunctr payload => frameActs s.cfg s.cfg.opcDfunctr payload
  | .etmod payload => frameActs s.cfg s.cfg.opcEtmod payload
  | .construct o => initActs s.cfg o
  | .setOrientation o => orientActs s.cfg o
  | .setBacklight _ => []
  | .toColor565 _ => []
  | .drawPixel565 x y c => drawPixelActs s.cfg (operand x) (operand y) c
  | .drawPixel888 x y c => drawPixelActs s.cfg (operand x) (operand y) (toColor565 c)
  | .fillRect left right top bottom c =>
    (fillRectPlan (operand left) (operand right) (operand top) (operand bottom) c s).1
  | .drawCircle565 x0 y0 radius c => drawCircleActs s.cfg (operand x0) (operand y0) (operand radius) c
  | .drawCircle888 x0 y0 radius c =>
    drawCircleActs s.cfg (operand x0) (operand y0) (operand radius) (toColor565 c)
  | .flush x y width height =>
    (flushPlan (operand x) (operand y) (operand width) (operand height) s).1
  | .clearScreen => (fillScreenPlan s.cfg.clearColor s).1
  | .fillScreen c => (fillScreenPlan c s).1
  | .sendCommand opcode => sendCommandActs s.cfg opcode
  | .sendData8 l => sendData8Acts s.cfg l
  | .sendData16 l => sendData16Acts s.cfg l
  | .setBusWidth w => [.width w]
  | .busWrite ev => [.write ev]
  | .setWindow left right top bottom => setWindowActs s.cfg left right top bottom
  | .orient o => orientActs s.cfg o
  | .drawChar x y fg bg g => (drawCharPlan s.cfg x y fg bg g).1
  | .drawString x y text fg bg => (drawStringFrom s.cfg s.width s.font x fg bg text x y).1

/-- The state on which an instruction that answers with a status starts its actions: `drawChar` on the
state itself, an operation with the lock taken, CONSTRUCT with its parameters stored too. -/
inductive Entry (i : Instr) (s : State) : State → Prop
  | unlocked : (∀ o, i ≠ .construct o) → Entry i s s
  | locked : (∀ o, i ≠ .construct o) → s.busy = false → s.phase = .p9 →
      Entry i s { s with busy := true }
  | construct (o : Orientation) : i = .construct o → s.busy = false → s.phase = .p0 →
      Entry i s { s with busy := true, ctor := ⟨s.ctorPort, o⟩ }

/-- Everything an instruction can have done that answers a next state. -/
inductive ExecResult (i : Instr) (s : State) : State → Prop
  /-- Held, refused with a status, or TO_COLOR565: no action. -/
  | quiet (r : Option Response) : ExecResult i s { s with resp := r }
  | backlight (on : Bool) : i = .setBacklight on → ExecResult i s
      (answer .ok 0 { emit (.pin .bl (backlightLevel s.cfg on)) s with backlightOn := on })
  /-- A procedure or wire frame came to its end. -/
  | finished (u : State) : (∀ o, i ≠ .construct o) → runActs (program s i) s = .done u →
      ExecResult i s u
  /-- An operation or `drawChar` came to its end and answered. -/
  | answered (s0 u : State) (st : Status) : Entry i s s0 → runActs (program s i) s0 = .done u →
      ExecResult i s (answer st 0 u)
  | failed (s0 u : State) : Entry i s s0 → runActs (program s i) s0 = .busFailure u →
      ExecResult i s (takeBusFailure u)

theorem answer_of_idle {s : State} (hb : s.busy = false) (st : Status) (r : Word16) :
    answer st r s = { s with resp := some ⟨st, r⟩ } := by
  simp [answer, ← hb]

theorem procedure_result {i : Instr} {s t : State} {acts : List Act} (hi : ∀ o, i ≠ .construct o)
    (hp : program s i = acts) (h : procedure acts s = .next t) : ExecResult i s t := by
  subst hp
  rcases procedure_next _ s t h with hdone | ⟨u, hfail, rfl⟩
  · exact .finished t hi hdone
  · exact .failed s u (.unlocked hi) hfail

theorem runAndAnswer_result {i : Instr} {s s0 t : State} {acts : List Act} {st : Status}
    (he : Entry i s s0) (hp : program s i = acts) (h : runAndAnswer acts st s0 = .next t) :
    ExecResult i s t := by
  subst hp
  rcases runAndAnswer_next _ st s0 t h with ⟨u, hdone, rfl⟩ | ⟨u, hfail, rfl⟩
  · exact .answered s0 u st he hdone
  · exact .failed s0 u he hfail

theorem operation_result {i : Instr} {s t : State} {plan : State → List Act × Status}
    (hi : ∀ o, i ≠ .construct o) (hp : program s i = (plan s).1) (h : operation plan s = .next t) :
    ExecResult i s t := by
  rcases operation_next plan s t h with ⟨_, rfl⟩ | ⟨hb, _, rfl⟩ | ⟨hb, hphase, h⟩
  · exact .quiet t.resp
  · rw [answer_of_idle hb]
    exact .quiet _
  · exact runAndAnswer_result (.locked hi hb hphase) hp h

theorem construct_result {o : Orientation} {s t : State} (h : execConstruct o s = .next t) :
    ExecResult (.construct o) s t := by
  unfold execConstruct at h
  split at h
  · cases h
    exact .quiet s.resp
  · rename_i hbusy
    have hb : s.busy = false := by simpa using hbusy
    split at h
    · cases h
      rw [answer_of_idle hb]
      exact .quiet _
    · rename_i hphase
      split at h
      · exact runAndAnswer_result (.construct o rfl hb (by simpa using hphase)) rfl h
      · cases h
        rw [answer_of_idle hb]
        exact .quiet _

theorem setBacklight_result {on : Bool} {s t : State} (h : execSetBacklight on s = .next t) :
    ExecResult (.setBacklight on) s t := by
  unfold execSetBacklight at h
  split at h
  · cases h
    exact .quiet s.resp
  · rename_i hbusy
    split at h
    · cases h
      exact .backlight on rfl
    · cases h
      rw [answer_of_idle (by simpa using hbusy)]
      exact .quiet _

/-- The one inversion of `exec`: each arm is a procedure, an operation, or one of the four that answer
in their own way. -/
theorem exec_result {i : Instr} {s t : State} (h : exec i s = .next t) : ExecResult i s t := by
  cases i
  case construct o => exact construct_result h
  case setBacklight on => exact setBacklight_result h
  case toColor565 c =>
    cases h
    exact .quiet _
  case drawChar x y fg bg g => exact runAndAnswer_result (.unlocked (by simp)) rfl h
  case swreset | slpout | gamset | dispoff | dispon | caset | paset | ramwr | madctl | pixset | frmctr
    | dfunctr | etmod | sendCommand | sendData8 | sendData16 | setBusWidth | busWrite | setWindow
    | orient => exact procedure_result (by simp) rfl h
  all_goals
    simp only [exec, execSetOrientation, execDrawPixel565, execDrawPixel888, execFillRect,
      execDrawCircle565, execDrawCircle888, execFlush, execClearScreen, execFillScreen,
      execDrawString] at h
    exact operation_result (by simp) rfl h

/-! ## The blocks of a drawing program -/

/-- What the programs of requests and text operations are built of: a command without parameters other
than the software reset, a whole frame other than the pixel format, and pixels in the width bracket. -/
inductive Block (cfg : Cfg) : List Act → Prop
  | command (c : WireCmd) : c ≠ .swreset → Block cfg (sendCommandActs cfg (cfg.opcode c))
  | frame (c : WireCmd) (l : List Byte) : c ≠ .pixset → l ≠ [] → l.length = cfg.expected c →
      Block cfg (sendCommandActs cfg (cfg.opcode c) ++ sendData8Acts cfg l)
  | bracket (batches : List (List Color565)) : Block cfg (bracketActs cfg batches)

/-- A list of actions made of blocks. -/
inductive Blocks (cfg : Cfg) : List Act → Prop
  | nil : Blocks cfg []
  | cons {b l : List Act} : Block cfg b → Blocks cfg l → Blocks cfg (b ++ l)

theorem Block.blocks {cfg : Cfg} {b : List Act} (hb : Block cfg b) : Blocks cfg b := by
  simpa using Blocks.cons hb .nil

theorem Blocks.append {cfg : Cfg} {l1 l2 : List Act} (h1 : Blocks cfg l1) (h2 : Blocks cfg l2) :
    Blocks cfg (l1 ++ l2) := by
  induction h1 with
  | nil => exact h2
  | cons hb _ ih =>
    rw [List.append_assoc]
    exact .cons hb ih

theorem Blocks.flatMap {cfg : Cfg} {α : Type} {f : α → List Act} (l : List α)
    (h : ∀ a, Blocks cfg (f a)) : Blocks cfg (l.flatMap f) := by
  induction l with
  | nil => exact .nil
  | cons a l ih => exact (h a).append ih

/-- What every block keeps, a list of blocks keeps. -/
theorem Blocks.leads {cfg : Cfg} {P : State → Prop} {l : List Act} (hl : Blocks cfg l)
    (h : ∀ b, Block cfg b → Leads P b P) : Leads P l P := by
  induction hl with
  | nil => exact Leads.nil P
  | cons hb _ ih => exact (h _ hb).append ih

theorem Block.plain {cfg : Cfg} {b : List Act} (hb : Block cfg b) : ∀ a ∈ b, a.plain = true := by
  cases hb <;>
    simp +contextual [sendCommandActs, sendData8Acts, bracketActs, sendData16Acts, Act.plain, or_imp]

theorem Blocks.plain {cfg : Cfg} {l : List Act} (hl : Blocks cfg l) : ∀ a ∈ l, a.plain = true := by
  induction hl with
  | nil => simp
  | cons hb _ ih =>
    intro a ha
    exact (List.mem_append.1 ha).elim (hb.plain a) (ih a)

theorem setWindowActs_blocks (cfg : Cfg) (left right top bottom : Int) :
    Blocks cfg (setWindowActs cfg left right top bottom) := by
  have hne (a b : Int) : coordParams a b ≠ [] := by simp [coordParams, be16]
  have hcaset := Block.frame (cfg := cfg) .caset _ (by simp) (hne left right) rfl
  have hpaset := Block.frame (cfg := cfg) .paset _ (by simp) (hne top bottom) rfl
  have hramwr := Block.command (cfg := cfg) .ramwr (by simp)
  exact (hcaset.blocks.append hpaset.blocks).append hramwr.blocks

theorem drawPixelActs_blocks (cfg : Cfg) (x y : Int) (c : Color565) :
    Blocks cfg (drawPixelActs cfg x y c) :=
  (setWindowActs_blocks cfg x x y y).append (Block.bracket _).blocks

theorem fillRectPlan_blocks (left right top bottom : Int) (c : Color565) (s : State) :
    Blocks s.cfg (fillRectPlan left right top bottom c s).1 := by
  simp only [fillRectPlan]
  split
  · exact .nil
  · have hramwr := Block.command (cfg := s.cfg) .ramwr (by simp)
    exact ((setWindowActs_blocks s.cfg left right top bottom).append hramwr.blocks).append
      (Block.bracket _).blocks

theorem drawCircleActs_blocks (cfg : Cfg) (x0 y0 radius : Int) (c : Color565) :
    Blocks cfg (drawCircleActs cfg x0 y0 radius c) :=
  .flatMap _ fun p => drawPixelActs_blocks cfg p.1 p.2 c

theorem flushPlan_blocks (x y width height : Int) (s : State) :
    Blocks s.cfg (flushPlan x y width height s).1 := by
  simp only [flushPlan]
  split
  · exact .nil
  · split
    · exact .nil
    · split
      · exact .nil
      · exact (setWindowActs_blocks s.cfg _ _ _ _).append (Block.bracket _).blocks

theorem drawCharPlan_blocks (cfg : Cfg) (x y : Int) (fg bg : Color565) (g : Glyph) :
    Blocks cfg (drawCharPlan cfg x y fg bg g).1 := by
  unfold drawCharPlan
  split
  · exact .nil
  · exact (setWindowActs_blocks cfg _ _ _ _).append (Block.bracket _).blocks

theorem drawStringFrom_blocks (cfg : Cfg) (width : Int) (font : Font) (x : Int) (fg bg : Color565)
    (text : List Char) (curX curY : Int) :
    Blocks cfg (drawStringFrom cfg width font x fg bg text curX curY).1 := by
  induction text generalizing curX curY with
  | nil => exact .nil
  | cons ch rest ih =>
    unfold drawStringFrom
    split
    · split
      · exact .nil
      · exact ih _ _
    · split
      · exact ih _ _
      · split
        · exact .nil
        · rename_i g _
          have hchar (cx cy : Int) := drawCharPlan_blocks cfg cx cy fg bg g
          dsimp only
          split
          · rename_i heq
            exact (heq ▸ hchar _ _ : Blocks cfg (_, _).1).append (ih _ _)
          · rename_i heq
            exact (heq ▸ hchar _ _ : Blocks cfg (_, _).1)

/-- `orient(o)` is its state writes and then blocks (R175). -/
theorem orientActs_blocks (cfg : Cfg) (o : Orientation) :
    ∃ l, orientActs cfg o = .screen o :: l ∧ Blocks cfg l :=
  have hmadctl := Block.frame (cfg := cfg) .madctl [orientByte cfg o] (by simp) (by simp) rfl
  ⟨_, rfl, hmadctl.blocks.append (setWindowActs_blocks cfg _ _ _ _)⟩

/-- The program of every request and text operation but the two that set the orientation is made of
blocks. -/
theorem program_blocks {i : Instr} (s : State) (hf : i.format = .req ∨ i.format = .ext)
    (hc : ∀ o, i ≠ .construct o) (ho : ∀ o, i ≠ .setOrientation o) : Blocks s.cfg (program s i) := by
  cases i <;> simp only [Instr.format, reduceCtorEq, or_self, or_true, or_false] at hf
  case construct o => exact absurd rfl (hc o)
  case setOrientation o => exact absurd rfl (ho o)
  case setBacklight | toColor565 => exact .nil
  case drawPixel565 | drawPixel888 => exact drawPixelActs_blocks _ _ _ _
  case fillRect => exact fillRectPlan_blocks _ _ _ _ _ s
  case drawCircle565 | drawCircle888 => exact drawCircleActs_blocks _ _ _ _ _
  case flush => exact flushPlan_blocks _ _ _ _ s
  case clearScreen | fillScreen => exact fillRectPlan_blocks _ _ _ _ _ s
  case drawChar => exact drawCharPlan_blocks _ _ _ _ _ _
  case drawString => exact drawStringFrom_blocks _ _ _ _ _ _ _ _ _

theorem frameActs_plain (cfg : Cfg) (op : Byte) (l : List Byte) :
    ∀ a ∈ frameActs cfg op l, a.plain = true := by
  unfold frameActs
  split <;> simp +contextual [sendCommandActs, sendData8Acts, Act.plain, or_imp]

/-- Every program but CONSTRUCT's and the two of `orient` only talks to the panel. -/
theorem program_plain {i : Instr} (s : State)
    (hi : ∀ o, i ≠ .construct o ∧ i ≠ .setOrientation o ∧ i ≠ .orient o) :
    ∀ a ∈ program s i, a.plain = true := by
  have hc := fun o => (hi o).1
  have ho := fun o => (hi o).2.1
  cases i
  case orient o => exact absurd rfl (hi o).2.2
  case swreset | slpout | gamset | dispoff | dispon | caset | paset | ramwr | madctl | pixset | frmctr
    | dfunctr | etmod => exact frameActs_plain _ _ _
  case sendCommand | sendData8 | sendData16 | setBusWidth | busWrite =>
    simp [program, sendCommandActs, sendData8Acts, sendData16Acts, Act.plain]
  case setWindow => exact (setWindowActs_blocks _ _ _ _ _).plain
  case drawChar | drawString => exact (program_blocks s (.inr rfl) hc ho).plain
  all_goals exact (program_blocks s (.inl rfl) hc ho).plain

end Sys2Proof.Machine
end

section
/-! The machine's invariant: what the programs keep of it, that every instruction and every step keeps
it, and that it holds after power-on (spec 10, 42 R147 to R149, 60 R236). -/

namespace Sys2Proof.Machine

/-! ## Frames of whole programs -/

/-- What the program of an instruction other than CONSTRUCT changes beside the wire: nothing, or the
screen's orientation (R24, R25). -/
theorem program_unwired {i : Instr} {s s0 u : State} (hc : ∀ o, i ≠ .construct o)
    (h : runActs (program s i) s0 = .done u ∨ runActs (program s i) s0 = .busFailure u) :
    (∃ o, (i = .setOrientation o ∨ i = .orient o) ∧ u.unwired = (setScreen o s0).unwired) ∨
    ((∀ o, i ≠ .setOrientation o ∧ i ≠ .orient o) ∧ u.unwired = s0.unwired) := by
  by_cases ho : ∃ o, i = .setOrientation o ∨ i = .orient o
  · obtain ⟨o, ho⟩ := ho
    have hp : program s i = orientActs s.cfg o := by rcases ho with rfl | rfl <;> rfl
    obtain ⟨l, hl, hblocks⟩ := orientActs_blocks s.cfg o
    rw [hp, hl] at h
    exact .inl ⟨o, ho, runActs_unwired (s := setScreen o s0) hblocks.plain h⟩
  · have hne : ∀ o, i ≠ .setOrientation o ∧ i ≠ .orient o :=
      fun o => ⟨fun e => ho ⟨o, .inl e⟩, fun e => ho ⟨o, .inr e⟩⟩
    exact .inr ⟨hne, runActs_unwired (program_plain s fun o => ⟨hc o, hne o⟩) h⟩

/-- No program but CONSTRUCT's writes the phase (R23). -/
theorem program_phase {i : Instr} {s s0 u : State} (hc : ∀ o, i ≠ .construct o)
    (h : runActs (program s i) s0 = .done u ∨ runActs (program s i) s0 = .busFailure u) :
    u.phase = s0.phase := by
  rcases program_unwired hc h with ⟨o, _, e⟩ | ⟨_, e⟩
  · exact (congrArg State.phase e :)
  · exact (congrArg State.phase e :)

theorem initActs_phase (cfg : Cfg) (o : Orientation) :
    Leads (fun _ => True) (initActs cfg o) (fun t => t.phase = .p9) := by
  have hfirst (l : List Act) : Leads (fun _ => True) l (fun _ => True) := fun _ _ _ _ => trivial
  have hlast : Leads (fun _ => True) [.phase .p9] (fun t => t.phase = .p9) := by
    intro s t _ h
    cases h
    rfl
  exact (hfirst _).append ((hfirst _).append hlast)

/-! ## The panel stays sound -/

/-- Under the configuration `cfg` and the logical size `w` by `h`, with a sound panel. -/
def State.Within (cfg : Cfg) (w h : Nat) (s : State) : Prop :=
  s.cfg = cfg ∧ s.width = w ∧ s.height = h ∧ s.panel.Sound w h

theorem emit_within {cfg : Cfg} (hwf : cfg.wf) {w h : Nat} (e : Event) {s : State}
    (hs : s.Within cfg w h) : (emit e s).Within cfg w h := by
  obtain ⟨rfl, rfl, rfl, hsound⟩ := hs
  refine ⟨emit_cfg e s, emit_width e s, emit_height e s, ?_⟩
  rw [emit_panel]
  exact receive_sound hwf.nodup _ _ e hsound

/-- Every action but a new logical size keeps the panel sound. -/
theorem leads_within {cfg : Cfg} (hwf : cfg.wf) (w h : Nat) {l : List Act}
    (hl : ∀ o, .screen o ∉ l) : Leads (State.Within cfg w h) l (State.Within cfg w h) := by
  refine Leads.of_mem fun a ha s t hs hst => ?_
  cases runAct_result hst with
  | pin | delay => exact emit_within hwf _ hs
  | sent b => exact emit_within (s := { s with xfer := s.xfer + 1 }) hwf _ hs
  | width | lost | phase => exact hs
  | screen o => exact absurd ha (hl o)

theorem screen_notMem_of_plain {l : List Act} (hl : ∀ a ∈ l, a.plain = true) (o : Orientation) :
    .screen o ∉ l := fun hmem => by simpa [Act.plain] using hl _ hmem

/-- A new logical size comes with a MADCTL frame, which forgets every pixel: the panel is sound again,
whatever it was (R175, R178). -/
theorem leads_orient {cfg : Cfg} (hwf : cfg.wf) (o : Orientation) :
    Leads (fun s => s.cfg = cfg) (orientActs cfg o)
      (State.Within cfg (screenWidth o) (screenHeight o)) := by
  have hturn : Leads (fun s => s.cfg = cfg)
      (.screen o :: (sendCommandActs cfg (cfg.opcode .madctl) ++ sendData8Acts cfg [orientByte cfg o]))
      (State.Within cfg (screenWidth o) (screenHeight o)) := by
    rintro s t rfl h
    have ht := frame_done (s := setScreen o s) h
    have hpanel := afterFrame_panel (s := setScreen o s) hwf (c := .madctl)
      (l := [orientByte s.cfg o]) (by simp) rfl
    subst ht
    refine ⟨by simp [afterFrame], by simp [afterFrame], by simp [afterFrame], ?_⟩
    exact hpanel ▸ sound_of_fm_nil rfl rfl
  exact hturn.append
    (leads_within hwf _ _ (screen_notMem_of_plain (setWindowActs_blocks cfg _ _ _ _).plain))

theorem leads_cfg (cfg : Cfg) (l : List Act) : Leads (fun s => s.cfg = cfg) l (fun s => s.cfg = cfg) :=
  fun _ _ hs h => (runActs_cfg (.inl h)).trans hs

/-- CONSTRUCT ends with a sound panel under the logical size of its orientation, from any panel. -/
theorem leads_init {cfg : Cfg} (hwf : cfg.wf) (o : Orientation) :
    Leads (fun s => s.cfg = cfg) (initActs cfg o)
      (State.Within cfg (screenWidth o) (screenHeight o)) := by
  have hkeep {l : List Act} (hl : ∀ o, .screen o ∉ l) :=
    leads_within hwf (screenWidth o) (screenHeight o) hl
  have h4 : Leads (fun s => s.cfg = cfg) (initStep4 cfg o) _ :=
    (leads_orient hwf o).append (hkeep (l := [.phase .p4]) (by simp))
  have h5 := hkeep (l := initStep5 cfg) (by simp [initStep5, sendCommandActs, sendData8Acts])
  have h6 := hkeep (l := initStep6 cfg) (by simp [initStep6, sendCommandActs, sendData8Acts])
  have h7 := hkeep (l := initStep7 cfg) (by simp [initStep7, sendCommandActs])
  have h8 := hkeep (l := initStep8 cfg) (by simp [initStep8, sendCommandActs])
  have h9 := hkeep (l := initStep9 cfg) (by simp [initStep9, sendCommandActs])
  exact ((((((leads_cfg cfg _).append h4).append h5).append h6).append h7).append h8).append h9

/-! ## The invariant of the machine -/

theorem State.Inv.sound {s : State} (hs : s.Inv) : s.panel.Sound s.width s.height :=
  ⟨hs.mem, hs.cursor, hs.onScreen⟩

theorem State.Inv.of_sound {s : State} (hwf : s.cfg.wf) (hp : s.panel.Sound s.width s.height)
    (hidle : s.busy = false) (hphase : s.phase = .p0 ∨ s.phase = .p9 ∨ s.phase = .failed)
    (hscreen : s.phase = .p9 → s.legalScreen) : s.Inv :=
  ⟨hwf, hp.mem, hidle, hphase, hscreen, hp.cursor, hp.onScreen⟩

/-- A bus failure leaves the panel undefined, so of the panel only the form of the memory counts. -/
theorem takeBusFailure_inv {u : State} (hwf : u.cfg.wf) (hm : Memory.wf u.panel.fm) :
    (takeBusFailure u).Inv := by
  refine .of_sound (by simpa using hwf) ?_ (by simp) (by simp) (by simp)
  rw [takeBusFailure_panel]
  exact sound_of_undef hm rfl

theorem setScreen_legal (o : Orientation) (s : State) : (setScreen o s).legalScreen := by
  cases o <;> simp [State.legalScreen, screenWidth, screenHeight]

theorem State.Within.legal {cfg : Cfg} {o : Orientation} {s : State}
    (hs : s.Within cfg (screenWidth o) (screenHeight o)) : s.legalScreen := by
  obtain ⟨-, hw, hh, -⟩ := hs
  have hlegal := setScreen_legal o s
  simpa [State.legalScreen, hw, hh] using hlegal

/-- Plain actions keep everything the invariant asks of a state. -/
theorem plain_done_inv {l : List Act} (hl : ∀ a ∈ l, a.plain = true) {s u : State} (hs : s.Inv)
    (h : runActs l s = .done u) : u.Inv := by
  obtain ⟨hcfg, hw, hh, hp⟩ := leads_within hs.cfg s.width s.height (screen_notMem_of_plain hl) s u
    ⟨rfl, rfl, rfl, hs.sound⟩ h
  have e := runActs_unwired hl (.inl h)
  have hphase : u.phase = s.phase := (congrArg State.phase e :)
  have hbusy : u.busy = s.busy := (congrArg State.busy e :)
  refine .of_sound (hcfg ▸ hs.cfg) (by rwa [hw, hh]) (hbusy.trans hs.idle) (hphase ▸ hs.phase) fun h9 => ?_
  simpa [State.legalScreen, hw, hh] using hs.screen (hphase ▸ h9)

theorem plain_procedure_inv {l : List Act} (hl : ∀ a ∈ l, a.plain = true) {s t : State} (hs : s.Inv)
    (h : procedure l s = .next t) : t.Inv := by
  rcases procedure_next l s t h with hdone | ⟨u, hfail, rfl⟩
  · exact plain_done_inv hl hs hdone
  · exact takeBusFailure_inv ((runActs_cfg (.inr hfail)).symm ▸ hs.cfg)
      (runActs_fm_wf l (.inr hfail) hs.mem)

/-- What the actions of an instruction read of the state they start on is what they would read of the
state it was accepted on. -/
theorem Entry.same {i : Instr} {s s0 : State} (he : Entry i s s0) :
    s0.cfg = s.cfg ∧ s0.phase = s.phase ∧ s0.width = s.width ∧ s0.height = s.height ∧
    s0.panel = s.panel ∧ s0.busWidth = s.busWidth := by
  cases he <;> simp

/-- The end of an instruction's program: the panel sound, the phase as before or `P9`, and in `P9` a
legal logical size. -/
theorem program_done_sound {i : Instr} {s s0 u : State} (hs : s.Inv) (he : Entry i s s0)
    (h : runActs (program s i) s0 = .done u) :
    u.cfg = s.cfg ∧ u.panel.Sound u.width u.height ∧ (u.phase = s.phase ∨ u.phase = .p9) ∧
    (u.phase = .p9 → u.legalScreen) := by
  obtain ⟨hcfg0, hphase0, hw0, hh0, hpanel0, -⟩ := he.same
  have horiented (o : Orientation) (hu : u.Within s.cfg (screenWidth o) (screenHeight o))
      (hphase : u.phase = s.phase ∨ u.phase = .p9) : u.cfg = s.cfg ∧ u.panel.Sound u.width u.height ∧
        (u.phase = s.phase ∨ u.phase = .p9) ∧ (u.phase = .p9 → u.legalScreen) := by
    have hlegal := hu.legal
    obtain ⟨hcfg, hw, hh, hp⟩ := hu
    exact ⟨hcfg, by rwa [hw, hh], hphase, fun _ => hlegal⟩
  by_cases hc : ∃ o, i = .construct o
  · obtain ⟨o, rfl⟩ := hc
    exact horiented o (leads_init hs.cfg o s0 u hcfg0 h) (.inr (initActs_phase s.cfg o s0 u trivial h))
  · have hne : ∀ o, i ≠ .construct o := fun o e => hc ⟨o, e⟩
    have hphase : u.phase = s.phase := (program_phase hne (.inl h)).trans hphase0
    rcases program_unwired hne (.inl h) with ⟨o, ho, -⟩ | ⟨ho, -⟩
    · have hp : program s i = orientActs s.cfg o := by rcases ho with rfl | rfl <;> rfl
      exact horiented o (leads_orient hs.cfg o s0 u hcfg0 (hp ▸ h)) (.inl hphase)
    · have hplain := program_plain s fun o => ⟨hne o, ho o⟩
      obtain ⟨hcfg, hw, hh, hp⟩ := leads_within hs.cfg s.width s.height (screen_notMem_of_plain hplain)
        s0 u ⟨hcfg0, hw0, hh0, hpanel0 ▸ hs.sound⟩ h
      refine ⟨hcfg, by rwa [hw, hh], .inl hphase, fun h9 => ?_⟩
      simpa [State.legalScreen, hw, hh] using hs.screen (hphase ▸ h9)

/-- Every instruction keeps the machine's invariant. -/
theorem exec_inv {i : Instr} {s t : State} (hs : s.Inv) (h : exec i s = .next t) : t.Inv := by
  have hend {s0 u : State} (he : Entry i s s0) (hdone : runActs (program s i) s0 = .done u) (b : Bool)
      (hb : b = false) (r : Option Response) : State.Inv { u with busy := b, resp := r } := by
    obtain ⟨hcfg, hp, hphase, hlegal⟩ := program_done_sound hs he hdone
    refine .of_sound (hcfg ▸ hs.cfg) hp hb ?_ hlegal
    rcases hphase with e | e
    · exact e ▸ hs.phase
    · exact .inr (.inl e)
  cases exec_result h with
  | quiet r => exact .of_sound hs.cfg hs.sound hs.idle hs.phase hs.screen
  | backlight on hi => exact .of_sound hs.cfg hs.sound rfl hs.phase hs.screen
  | finished _ hi hdone =>
    have hbusy : t.busy = s.busy := (congrArg State.busy (runActs_given (.inl hdone)) :)
    exact hend (.unlocked hi) hdone t.busy (hbusy.trans hs.idle) t.resp
  | answered s0 u st he hdone => exact hend he hdone false rfl _
  | failed s0 u he hfail =>
    obtain ⟨hcfg0, -, -, -, hpanel0, -⟩ := he.same
    exact takeBusFailure_inv (((runActs_cfg (.inr hfail)).trans hcfg0).symm ▸ hs.cfg)
      (runActs_fm_wf _ (.inr hfail) (hpanel0 ▸ hs.mem))

/-- A presented operation that names no instruction keeps it too: at most its bytes go over the wire. -/
theorem notARow_inv {p : Presented} {s t : State} (hs : s.Inv) (h : notARow p s = .next t) : t.Inv := by
  cases p with
  | request w =>
    cases h
    exact .of_sound hs.cfg hs.sound hs.idle hs.phase hs.screen
  | frame bytes =>
    cases bytes with
    | nil =>
      cases h
      exact hs
    | cons b params => exact plain_procedure_inv (frameActs_plain s.cfg b params) hs h
  | call i =>
    cases h
    exact hs

/-- Settles O52: the step's cases, each instruction by `exec_inv`. -/
theorem stepKeepsInvariant : Obligations.StepKeepsInvariant := by
  intro s t hs h
  cases hport : s.port with
  | nil =>
    rw [step_of_empty s hport] at h
    cases h
    exact hs
  | cons move rest =>
    have hrest : State.Inv { s with port := rest } :=
      .of_sound hs.cfg hs.sound hs.idle hs.phase hs.screen
    cases move with
    | present p =>
      rw [step_of_present s p rest hs.idle hport] at h
      split at h
      · exact exec_inv hrest h
      · exact notARow_inv hrest h
    | supplyTokens | supplyBuf | supplyFont =>
      simp only [step, fetch, hs.idle, hport, Bool.false_eq_true, if_false] at h
      cases h
      exact .of_sound hs.cfg hs.sound rfl hs.phase hs.screen

theorem reset_inv : State.reset.Inv where
  cfg := by decide
  mem := reset_memory_wf
  idle := rfl
  phase := .inl rfl
  screen h := by cases h
  cursor _ h := by cases h
  onScreen _ e he := by cases he

/-- Settles O53. -/
theorem resetMeetsInvariant : Obligations.ResetMeetsInvariant :=
  ⟨reset_inv, reset_inv, rfl, fun h => by cases h⟩

end Sys2Proof.Machine
end

section
/-! Settled states: every request and text operation leaves the bus in 8-bit mode and the panel ready to
draw unless it is undefined (10 R27, 41 R129, 43 R169, 60 R231). -/

namespace Sys2Proof.Machine

/-! ## Blocks keep the bus width and the panel ready -/

theorem leads_true (P : State → Prop) (l : List Act) : Leads P l (fun _ => True) :=
  fun _ _ _ _ => trivial

/-- A setting of the width that keeps the condition `P` at the states where it is made. -/
theorem leads_setWidth {P Q : State → Prop} (w : BusWidth) (h : ∀ s, P s → Q (setWidth w s)) :
    Leads P [.width w] Q := by
  intro s t hs ht
  cases ht
  exact h s hs

theorem leads_transfer_width8 (level : Level) (b : Batch) :
    Leads (fun s => s.busWidth = .w8) [.pin .dc level, .write b] (fun s => s.busWidth = .w8) := by
  intro s t hs ht
  obtain ⟨-, rfl⟩ := transfer_done ht
  simpa using hs

/-- Every block ends at width 8: none but the bracket sets the width, and the bracket restores it
(R129). -/
theorem Block.leads_width8 {cfg : Cfg} {b : List Act} (hb : Block cfg b) :
    Leads (fun s => s.busWidth = .w8) b (fun s => s.busWidth = .w8) := by
  cases hb with
  | command c _ => exact leads_transfer_width8 _ _
  | frame c l _ _ _ => exact (leads_transfer_width8 _ _).append (leads_transfer_width8 _ _)
  | bracket batches => exact (leads_true _ _).append (leads_setWidth .w8 fun _ _ => rfl)

/-- Under the configuration `cfg`, with the panel ready to draw unless it is undefined (R169). -/
def State.ReadyUnlessUndef (cfg : Cfg) (s : State) : Prop :=
  s.cfg = cfg ∧ (s.panel.undef = false → s.panelReady)

@[simp] theorem latch_par (p : Panel) (b : Byte) (par : List Byte) (c : WireCmd) :
    (p.latch b par c).par = p.par := by
  cases c <;> rfl

@[simp] theorem latch_cmd (p : Panel) (b : Byte) (par : List Byte) (c : WireCmd) :
    (p.latch b par c).cmd = p.cmd := by
  cases c <;> rfl

theorem latch_pixfmt {c : WireCmd} (hc : c ≠ .pixset) (p : Panel) (b : Byte) (par : List Byte) :
    (p.latch b par c).pixfmt = p.pixfmt := by
  cases c
  case pixset => exact absurd rfl hc
  all_goals rfl

/-- A whole frame leaves no parameter list incomplete, and keeps a set `P.undef`. -/
theorem afterFrame_incomplete {s : State} (hwf : s.cfg.wf) {c : WireCmd} {l : List Byte} (hl : l ≠ [])
    (hlen : l.length = s.cfg.expected c) :
    (afterFrame (s.cfg.opcode c) l s).panel.incomplete s.cfg = false := by
  rw [afterFrame_panel hwf hl hlen]
  exact incomplete_of_complete (by simp) (command?_opcode s.cfg hwf.nodup c) (by simpa using hlen)

theorem afterFrame_undef {s : State} (hwf : s.cfg.wf) {c : WireCmd} {l : List Byte} (hl : l ≠ [])
    (hlen : l.length = s.cfg.expected c) (hu : (afterFrame (s.cfg.opcode c) l s).panel.undef = false) :
    s.panel.undef = false := by
  rw [afterFrame_panel hwf hl hlen, latch_undef] at hu
  exact (Bool.or_eq_false_iff.1 hu).1

theorem leads_command_ready {cfg : Cfg} (hwf : cfg.wf) {c : WireCmd} (hc : c ≠ .swreset) :
    Leads (State.ReadyUnlessUndef cfg) (sendCommandActs cfg (cfg.opcode c))
      (State.ReadyUnlessUndef cfg) := by
  rintro s t ⟨rfl, hs⟩ h
  obtain ⟨-, rfl⟩ := transfer_done h
  have hreset : s.cfg.command? (s.cfg.opcode c) ≠ some .swreset := by
    rw [command?_opcode s.cfg hwf.nodup]
    simpa using hc
  refine ⟨afterTransfer_cfg _ _ s, fun hu => ?_⟩
  unfold State.panelReady
  rw [afterTransfer_cfg, sendCommand_panel] at *
  have hu0 : s.panel.undef = false := by
    by_contra hset
    rw [commandByte_undef_of_ne _ hreset (by simpa using hset)] at hu
    cases hu
  obtain ⟨-, -, hfmt⟩ := hs hu0
  exact ⟨hu, incomplete_of_par_nil _ (commandByte_par _ _ _ _), (commandByte_pixfmt _ _ hreset).trans hfmt⟩

theorem leads_frame_ready {cfg : Cfg} (hwf : cfg.wf) {c : WireCmd} {l : List Byte} (hc : c ≠ .pixset)
    (hl : l ≠ []) (hlen : l.length = cfg.expected c) :
    Leads (State.ReadyUnlessUndef cfg) (sendCommandActs cfg (cfg.opcode c) ++ sendData8Acts cfg l)
      (State.ReadyUnlessUndef cfg) := by
  rintro s t ⟨rfl, hs⟩ h
  cases frame_done h
  refine ⟨by simp [afterFrame], fun hu => ⟨hu, ?_, ?_⟩⟩
  · simpa [afterFrame] using afterFrame_incomplete hwf hl hlen
  · obtain ⟨-, -, hfmt⟩ := hs (afterFrame_undef hwf hl hlen hu)
    rw [afterFrame_panel hwf hl hlen, latch_pixfmt hc]
    simpa [afterFrame] using hfmt

/-- The pixel format's own frame makes the panel ready, whatever the format was (R160). -/
theorem leads_pixset_ready {cfg : Cfg} (hwf : cfg.wf) :
    Leads (fun s => s.cfg = cfg)
      (sendCommandActs cfg (cfg.opcode .pixset) ++ sendData8Acts cfg cfg.payPixset)
      (State.ReadyUnlessUndef cfg) := by
  rintro s t rfl h
  cases frame_done h
  have hpay : s.cfg.payPixset ≠ [] := hwf.pixset
  refine ⟨by simp [afterFrame], fun hu => ⟨hu, ?_, ?_⟩⟩
  · simpa [afterFrame] using afterFrame_incomplete (c := .pixset) hwf hpay rfl
  · rw [afterFrame_panel hwf hpay rfl]
    simp [Panel.latch, afterFrame]

theorem leads_words_ready {cfg : Cfg} (hwf : cfg.wf) (l : List Word16) :
    Leads (State.ReadyUnlessUndef cfg) (sendData16Acts cfg l) (State.ReadyUnlessUndef cfg) := by
  rintro s t ⟨rfl, hs⟩ h
  obtain ⟨-, rfl⟩ := transfer_done h
  refine ⟨afterTransfer_cfg _ _ s, ?_⟩
  unfold State.panelReady
  rw [afterTransfer_cfg, sendData16_panel hwf]
  refine foldl_keeps (fun q => q.undef = false → q.undef = false ∧ q.incomplete s.cfg = false ∧
    q.pixfmt = .of s.cfg.payPixset) _ (fun q c hq hu => ?_) l s.panel hs
  have hu0 : q.undef = false := by
    by_contra hset
    rw [dataWord_undef _ _ _ q c (by simpa using hset)] at hu
    cases hu
  obtain ⟨-, hinc, hfmt⟩ := hq hu0
  obtain ⟨hcmd, hpar, hpix⟩ := dataWord_latch s.cfg s.width s.height q c
  exact ⟨hu, by simpa [Panel.incomplete, hcmd, hpar] using hinc, hpix.trans hfmt⟩

theorem leads_setWidth_ready (cfg : Cfg) (w : BusWidth) :
    Leads (State.ReadyUnlessUndef cfg) [.width w] (State.ReadyUnlessUndef cfg) :=
  leads_setWidth w fun _ hs => hs

theorem Block.leads_ready {cfg : Cfg} (hwf : cfg.wf) {b : List Act} (hb : Block cfg b) :
    Leads (State.ReadyUnlessUndef cfg) b (State.ReadyUnlessUndef cfg) := by
  cases hb with
  | command c hc => exact leads_command_ready hwf hc
  | frame c l hc hl hlen => exact leads_frame_ready hwf hc hl hlen
  | bracket batches =>
    exact ((leads_setWidth_ready cfg .w16).append (.flatMap batches (leads_words_ready hwf))).append
      (leads_setWidth_ready cfg .w8)

/-! ## Programs -/

/-- What every block and every new logical size keeps, the program of every request and text operation
but CONSTRUCT keeps. -/
theorem program_leads {i : Instr} {s : State} {P : State → Prop} (hf : i.format = .req ∨ i.format = .ext)
    (hc : ∀ o, i ≠ .construct o) (hscreen : ∀ o s, P s → P (setScreen o s))
    (hblock : ∀ b, Block s.cfg b → Leads P b P) : Leads P (program s i) P := by
  by_cases ho : ∃ o, i = .setOrientation o
  · obtain ⟨o, rfl⟩ := ho
    obtain ⟨l, hl, hblocks⟩ := orientActs_blocks s.cfg o
    rw [program, hl]
    exact fun s0 t hs h => hblocks.leads hblock (setScreen o s0) t (hscreen o s0 hs) h
  · exact (program_blocks s hf hc fun o e => ho ⟨o, e⟩).leads hblock

/-- CONSTRUCT leaves the panel ready to draw, from any panel (R169). -/
theorem initActs_ready {cfg : Cfg} (hwf : cfg.wf) (o : Orientation) :
    Leads (fun s => s.cfg = cfg) (initActs cfg o) (State.ReadyUnlessUndef cfg) := by
  obtain ⟨-, -, ⟨-, hfrmctr, hgamset, hetmod, hdfunctr⟩, ⟨hcaset, hpaset⟩, -⟩ := id hwf
  have hphase (p : Phase) :
      Leads (State.ReadyUnlessUndef cfg) [.phase p] (State.ReadyUnlessUndef cfg) := by
    intro s t hs h
    cases h
    exact hs
  have hdelay (ms : Nat) :
      Leads (State.ReadyUnlessUndef cfg) [.delay ms] (State.ReadyUnlessUndef cfg) := by
    intro s t hs h
    cases h
    exact hs
  have h5 : Leads (fun s => s.cfg = cfg) (initStep5 cfg) (State.ReadyUnlessUndef cfg) :=
    (leads_pixset_ready hwf).append (hphase .p5)
  have h6 : Leads (State.ReadyUnlessUndef cfg) (initStep6 cfg) (State.ReadyUnlessUndef cfg) :=
    ((((((leads_frame_ready hwf (c := .frmctr) (by simp) hfrmctr rfl).append
      (leads_frame_ready hwf (c := .gamset) (by simp) hgamset rfl)).append
      (leads_frame_ready hwf (c := .caset) (by simp) (by rintro h; simp [h] at hcaset) hcaset)).append
      (leads_frame_ready hwf (c := .paset) (by simp) (by rintro h; simp [h] at hpaset) hpaset)).append
      (leads_frame_ready hwf (c := .etmod) (by simp) hetmod rfl)).append
      (leads_frame_ready hwf (c := .dfunctr) (by simp) hdfunctr rfl)).append (hphase .p6)
  have hwait (c : WireCmd) (hc : c ≠ .swreset) (ms : Nat) (p : Phase) :
      Leads (State.ReadyUnlessUndef cfg) (sendCommandActs cfg (cfg.opcode c) ++ [.delay ms, .phase p])
        (State.ReadyUnlessUndef cfg) :=
    (leads_command_ready hwf hc).append ((hdelay ms).append (hphase p))
  have h9 : Leads (State.ReadyUnlessUndef cfg) (initStep9 cfg) (State.ReadyUnlessUndef cfg) :=
    (leads_command_ready hwf (c := .ramwr) (by simp)).append (hphase .p9)
  exact (((((leads_cfg cfg _).append h5).append h6).append
    (hwait .slpout (by simp) cfg.tSlpout .p7)).append (hwait .dispon (by simp) cfg.tDispon .p8)).append h9

/-- CONSTRUCT sets no transfer width. -/
theorem initActs_busWidth {cfg : Cfg} {o : Orientation} {s u : State}
    (h : runActs (initActs cfg o) s = .done u) : u.busWidth = s.busWidth := by
  refine runActs_keeps_of_mem (fun s t => t.busWidth = s.busWidth) (fun _ => rfl)
    (fun _ _ _ h1 h2 => h2.trans h1) (fun a ha s t hst => ?_) (.inl h)
  cases runAct_result hst with
  | width w =>
    simp [initActs, initStep1, initStep2, initStep3, initStep4, initStep5, initStep6, initStep7,
      initStep8, initStep9, orientActs, setWindowActs, sendCommandActs, sendData8Acts] at ha
  | _ => simp

/-- The end of a request's or text operation's program that began settled. -/
theorem program_done_settled {i : Instr} {s s0 u : State} (hf : i.format = .req ∨ i.format = .ext)
    (hs : s.Settled) (he : Entry i s s0) (h : runActs (program s i) s0 = .done u) :
    u.busWidth = .w8 ∧ (u.phase = .p9 → u.panel.undef = false → u.panelReady) := by
  obtain ⟨hcfg0, hphase0, -, -, hpanel0, hwidth0⟩ := he.same
  have hw0 := hwidth0.trans hs.width8
  by_cases hc : ∃ o, i = .construct o
  · obtain ⟨o, rfl⟩ := hc
    exact ⟨(initActs_busWidth h).trans hw0, fun _ => (initActs_ready hs.inv.cfg o s0 u hcfg0 h).2⟩
  · have hne : ∀ o, i ≠ .construct o := fun o e => hc ⟨o, e⟩
    refine ⟨program_leads hf hne (fun _ _ => id) (fun _ hb => hb.leads_width8) s0 u hw0 h, fun h9 => ?_⟩
    have hready : s0.panel.undef = false → s0.panelReady := by
      have h9s : s.phase = .p9 := ((program_phase hne (.inl h)).trans hphase0).symm.trans h9
      simpa [State.panelReady, hpanel0, hcfg0] using hs.panel h9s
    exact (program_leads (P := State.ReadyUnlessUndef s.cfg) hf hne (fun _ _ => id)
      (fun _ hb => hb.leads_ready hs.inv.cfg) s0 u ⟨hcfg0, hready⟩ h).2

/-- Settles O54: the blocks of the programs keep the panel ready, CONSTRUCT makes it ready, and a bus
failure restores the width and leaves `P9`. -/
theorem requestsKeepSettled : Obligations.RequestsKeepSettled := by
  intro i s t hs hf h
  have hinv := exec_inv hs.inv h
  cases exec_result h with
  | quiet r => exact ⟨hinv, hs.width8, hs.panel⟩
  | backlight on hi => exact ⟨hinv, hs.width8, hs.panel⟩
  | finished _ hi hdone =>
    obtain ⟨hw, hp⟩ := program_done_settled hf hs (.unlocked hi) hdone
    exact ⟨hinv, hw, hp⟩
  | answered s0 u st he hdone =>
    obtain ⟨hw, hp⟩ := program_done_settled hf hs he hdone
    exact ⟨hinv, hw, hp⟩
  | failed s0 u he hfail => exact ⟨hinv, by simp, by simp⟩

end Sys2Proof.Machine
end

section
/-! Frames of single instructions: the stored register commands (10 R42, 41 R134), what clears `P.undef`
(10 R43), what writes the phase (10 R23) and the other engine state (10 R24 to R30), and the reset values
(10 R45). -/

namespace Sys2Proof.Machine

/-! ## Frames that store their payload -/

/-- A frame with the expected parameters completes when its two writes succeed. -/
theorem sendFrame_completes {s : State} (hw : s.busWidth = .w8) (hok : s.writesOk 2) (op : Byte)
    {l : List Byte} (hl : l ≠ []) : sendFrame op l s = .next (afterFrame op l s) := by
  simp [sendFrame, procedure, frameActs, hl, runActs_frame hw hok]

/-- The same of a command whose effect is that its payload is stored. -/
theorem sendFrame_storedIn {s : State} (hwf : s.cfg.wf) (hw : s.busWidth = .w8) (hok : s.writesOk 2)
    {c : WireCmd} (hc : ∀ p b par, Panel.latch p b par c = { p with other := otherPut p.other b par })
    {l pay : List Byte} (hpay : pay ≠ []) (hexp : s.cfg.expected c = pay.length)
    (hlen : l.length = pay.length) :
    ∃ t, sendFrame (s.cfg.opcode c) l s = .next t ∧ s.storedIn t (s.cfg.opcode c) l := by
  have hl : l ≠ [] := List.length_pos_iff.1 (hlen ▸ List.length_pos_iff.2 hpay)
  have hpanel := afterFrame_panel hwf hl (hlen.trans hexp.symm)
  rw [hc] at hpanel
  refine ⟨_, sendFrame_completes hw hok _ hl, afterFrame_sent _ _ s, by simp [afterFrame], ?_, ?_, ?_⟩
  · rw [hpanel]
    exact other_get_put_same _ _ _
  · intro d hd
    rw [hpanel]
    exact other_get_put_other _ _ _ _ hd
  · rw [hpanel]

/-- Settles O22, by the one lemma about the four commands. -/
theorem registerCommandsStore : Obligations.RegisterCommandsStore := by
  intro s l hwf hw hok
  obtain ⟨-, -, ⟨-, hfrmctr, hgamset, hetmod, hdfunctr⟩, -⟩ := id hwf
  exact ⟨sendFrame_storedIn hwf hw hok (c := .frmctr) (fun _ _ _ => rfl) hfrmctr rfl,
    sendFrame_storedIn hwf hw hok (c := .gamset) (fun _ _ _ => rfl) hgamset rfl,
    sendFrame_storedIn hwf hw hok (c := .etmod) (fun _ _ _ => rfl) hetmod rfl,
    sendFrame_storedIn hwf hw hok (c := .dfunctr) (fun _ _ _ => rfl) hdfunctr rfl⟩

/-! ## The sticky bit -/

/-- Under the configuration `cfg`, with the panel undefined. -/
def State.Undef (cfg : Cfg) (s : State) : Prop := s.cfg = cfg ∧ s.panel.undef = true

/-- A bare write without the software-reset opcode keeps `P.undef` set, whatever the mode. -/
theorem leads_write_undef {cfg : Cfg} {b : Batch} (hb : ∀ l, b = .bytes l → cfg.opcSwreset ∉ l) :
    Leads (State.Undef cfg) [.write b] (State.Undef cfg) := by
  refine Leads.of_mem fun a ha s t hs hst => ?_
  cases List.mem_singleton.1 ha
  obtain ⟨rfl, hu⟩ := hs
  cases runAct_result hst with
  | lost => exact ⟨rfl, hu⟩
  | sent =>
    refine ⟨emit_cfg _ _, ?_⟩
    rw [emit_panel]
    refine receive_undef _ _ _ (by cases b <;> simp [batchEvent]) (fun l hl _ => ?_) hu
    cases b <;> cases hl
    exact hb l rfl

/-- A transfer keeps `P.undef` set unless it sends the software-reset opcode as a command. -/
theorem leads_transfer_undef {cfg : Cfg} {level : Level} {b : Batch}
    (hb : ∀ l, b = .bytes l → level = cfg.dcCmdLevel → cfg.opcSwreset ∉ l) :
    Leads (State.Undef cfg) [.pin .dc level, .write b] (State.Undef cfg) := by
  rintro s t ⟨rfl, hu⟩ h
  obtain ⟨-, rfl⟩ := transfer_done h
  refine ⟨afterTransfer_cfg _ _ s, ?_⟩
  rw [afterTransfer_panel]
  refine receive_undef _ _ _ (by cases b <;> simp [batchEvent]) (fun l hl hmode => ?_) hu
  cases b <;> cases hl
  exact hb l rfl (lineMode_eq_command hmode)

theorem leads_command_undef {cfg : Cfg} {op : Byte} (hop : op ≠ cfg.opcSwreset) :
    Leads (State.Undef cfg) (sendCommandActs cfg op) (State.Undef cfg) :=
  leads_transfer_undef fun l hl _ => by
    cases hl
    simpa using hop.symm

theorem leads_data8_undef {cfg : Cfg} (hwf : cfg.wf) (l : List Byte) :
    Leads (State.Undef cfg) (sendData8Acts cfg l) (State.Undef cfg) :=
  leads_transfer_undef fun _ _ hlevel => absurd hlevel hwf.levels

theorem leads_data16_undef (cfg : Cfg) (l : List Word16) :
    Leads (State.Undef cfg) (sendData16Acts cfg l) (State.Undef cfg) :=
  leads_transfer_undef fun _ hl _ => by cases hl

theorem leads_setWidth_undef (cfg : Cfg) (w : BusWidth) :
    Leads (State.Undef cfg) [.width w] (State.Undef cfg) :=
  leads_setWidth w fun _ hs => hs

theorem leads_frameActs_undef {cfg : Cfg} (hwf : cfg.wf) {op : Byte} (hop : op ≠ cfg.opcSwreset)
    (l : List Byte) : Leads (State.Undef cfg) (frameActs cfg op l) (State.Undef cfg) := by
  unfold frameActs
  split
  · exact (leads_command_undef hop).append (.nil _)
  · exact (leads_command_undef hop).append (leads_data8_undef hwf l)

theorem Block.leads_undef {cfg : Cfg} (hwf : cfg.wf) {b : List Act} (hb : Block cfg b) :
    Leads (State.Undef cfg) b (State.Undef cfg) := by
  have hop {c : WireCmd} (hc : c ≠ .swreset) : cfg.opcode c ≠ cfg.opcSwreset :=
    fun h => hc (opcode_injective (d := .swreset) hwf.nodup h)
  cases hb with
  | command c hc => exact leads_command_undef (hop hc)
  | frame c l _ hl hlen =>
    refine (leads_command_undef (hop ?_)).append (leads_data8_undef hwf l)
    rintro rfl
    exact hl (List.length_eq_zero_iff.1 hlen)
  | bracket batches =>
    exact ((leads_setWidth_undef cfg .w16).append (.flatMap batches (leads_data16_undef cfg))).append
      (leads_setWidth_undef cfg .w8)

/-- Every program keeps `P.undef` set, but those of the four instructions that can send a panel
reset. -/
theorem program_undef {i : Instr} {s : State} (hwf : s.cfg.wf) (hc : ∀ o, i ≠ .construct o)
    (hreset : i ≠ .swreset) (hcommand : i ≠ .sendCommand s.cfg.opcSwreset)
    (hbatch : ∀ l, i = .busWrite (.bytes l) → s.cfg.opcSwreset ∉ l) :
    Leads (State.Undef s.cfg) (program s i) (State.Undef s.cfg) := by
  have hblock (b : List Act) (hb : Block s.cfg b) := hb.leads_undef hwf
  have hframe {c : WireCmd} (l : List Byte) (hc : c ≠ .swreset) :
      Leads (State.Undef s.cfg) (frameActs s.cfg (s.cfg.opcode c) l) (State.Undef s.cfg) :=
    leads_frameActs_undef hwf (fun h => hc (opcode_injective (d := .swreset) hwf.nodup h)) l
  cases i
  case swreset => exact absurd rfl hreset
  case slpout => exact hframe (c := .slpout) _ (by simp)
  case gamset => exact hframe (c := .gamset) _ (by simp)
  case dispoff => exact hframe (c := .dispoff) _ (by simp)
  case dispon => exact hframe (c := .dispon) _ (by simp)
  case caset => exact hframe (c := .caset) _ (by simp)
  case paset => exact hframe (c := .paset) _ (by simp)
  case ramwr => exact hframe (c := .ramwr) _ (by simp)
  case madctl => exact hframe (c := .madctl) _ (by simp)
  case pixset => exact hframe (c := .pixset) _ (by simp)
  case frmctr => exact hframe (c := .frmctr) _ (by simp)
  case dfunctr => exact hframe (c := .dfunctr) _ (by simp)
  case etmod => exact hframe (c := .etmod) _ (by simp)
  case sendCommand op => exact leads_command_undef fun h => hcommand (h ▸ rfl)
  case sendData8 l => exact leads_data8_undef hwf l
  case sendData16 l => exact leads_data16_undef s.cfg l
  case setBusWidth w => exact leads_setWidth_undef s.cfg w
  case busWrite b => exact leads_write_undef fun l hl => hbatch l (hl ▸ rfl)
  case setWindow => exact (setWindowActs_blocks _ _ _ _ _).leads hblock
  case orient o =>
    exact program_leads (i := .setOrientation o) (.inl rfl) (by simp) (fun _ _ hs => hs) hblock
  case drawChar | drawString => exact program_leads (.inr rfl) (by simp) (fun _ _ hs => hs) hblock
  all_goals exact program_leads (.inl rfl) hc (fun _ _ hs => hs) hblock

/-- Settles O24: every other program keeps the bit set, and so does a bus failure. -/
theorem undefIsSticky : Obligations.UndefIsSticky := by
  intro i s t hwf h hu ht
  by_contra hno
  simp only [not_or, not_exists, not_and] at hno
  obtain ⟨hc, hreset, hcommand, hbatch⟩ := hno
  have hend {s0 u : State} (he : Entry i s s0) (hdone : runActs (program s i) s0 = .done u) :
      u.panel.undef = true := by
    obtain ⟨hcfg0, -, -, -, hpanel0, -⟩ := he.same
    exact (program_undef hwf hc hreset hcommand hbatch s0 u ⟨hcfg0, hpanel0 ▸ hu⟩ hdone).2
  have htrue : t.panel.undef = true := by
    cases exec_result h with
    | quiet r => exact hu
    | backlight on hi => exact hu
    | finished _ hi hdone => exact hend (.unlocked hi) hdone
    | answered s0 u st he hdone =>
      have hstill := hend he hdone
      exact hstill
    | failed s0 u he hfail => simp
  simp [htrue] at ht

/-! ## The phase -/

/-- Settles O58: programs but CONSTRUCT's leave the phase alone, CONSTRUCT is accepted in `P0` only and
ends in `P9`. -/
theorem phaseOnlyByConstructOrFailure : Obligations.PhaseOnlyByConstructOrFailure := by
  intro i s t h hne
  have hend {s0 u : State} (he : Entry i s s0) (hdone : runActs (program s i) s0 = .done u)
      (hu : u.phase ≠ s.phase) : (∃ o, i = .construct o) ∧ s.phase = .p0 ∧ u.phase = .p9 := by
    cases he with
    | unlocked hc => exact absurd (program_phase hc (.inl hdone)) hu
    | locked hc _ _ => exact absurd (program_phase hc (.inl hdone)) hu
    | construct o hi _ hphase =>
      subst hi
      exact ⟨⟨o, rfl⟩, hphase, initActs_phase s.cfg o _ u trivial hdone⟩
  cases exec_result h with
  | quiet r => exact absurd rfl hne
  | backlight on hi => exact absurd rfl hne
  | finished _ hi hdone => exact .inl (hend (.unlocked hi) hdone hne)
  | answered s0 u st he hdone =>
    have hconstruct := hend he hdone hne
    exact .inl hconstruct
  | failed s0 u he hfail => exact .inr ⟨by simp, by simp⟩

/-! ## The rest of the engine -/

/-- A reading of the state that the lock, the response and a bus failure do not touch, is kept by an
instruction whose program keeps it; SET_BACKLIGHT's and CONSTRUCT's own writes are asked for apart. -/
theorem ExecResult.reading_kept {α : Type} {f : State → α} {i : Instr} {s t : State}
    (h : ExecResult i s t) (hlock : ∀ u b r, f { u with busy := b, resp := r } = f u)
    (hfailure : ∀ u, f (takeBusFailure u) = f u)
    (hbacklight : ∀ on, i = .setBacklight on →
      f { emit (.pin .bl (backlightLevel s.cfg on)) s with backlightOn := on } = f s)
    (hctor : ∀ o, i = .construct o → f { s with ctor := ⟨s.ctorPort, o⟩ } = f s)
    (hrun : ∀ s0 u, runActs (program s i) s0 = .done u ∨ runActs (program s i) s0 = .busFailure u →
      f u = f s0) : f t = f s := by
  have hentry {s0 : State} (he : Entry i s s0) : f s0 = f s := by
    cases he with
    | unlocked _ => rfl
    | locked _ _ _ => exact hlock s true s.resp
    | construct o hi _ _ => exact (hlock { s with ctor := ⟨s.ctorPort, o⟩ } true s.resp).trans (hctor o hi)
  cases h with
  | quiet r => exact hlock s s.busy r
  | backlight on hi => exact (hlock _ false _).trans (hbacklight on hi)
  | finished _ hi hdone => exact hrun s t (.inl hdone)
  | answered s0 u st he hdone =>
    exact ((hlock u false _).trans (hrun s0 u (.inl hdone))).trans (hentry he)
  | failed s0 u he hfail =>
    exact ((hfailure u).trans (hrun s0 u (.inr hfail))).trans (hentry he)

/-- No instruction writes the configuration, the host's ports, or the bus oracle. -/
theorem exec_ports {i : Instr} {s t : State} (h : exec i s = .next t) :
    t.cfg = s.cfg ∧ t.ctorPort = s.ctorPort ∧ t.buf = s.buf ∧ t.font = s.font ∧ t.port = s.port ∧
    t.busFails = s.busFails := by
  have hkept := (exec_result h).reading_kept
    (f := fun s => (s.cfg, s.ctorPort, s.buf, s.font, s.port, s.busFails)) (fun _ _ _ => rfl) (by simp)
    (by simp) (fun _ _ => rfl) fun s0 u hu =>
      (congrArg (fun s : State => (s.cfg, s.ctorPort, s.buf, s.font, s.port, s.busFails))
        (runActs_given hu) :)
  simpa using hkept

/-- No program drives the backlight line. -/
theorem program_bl {i : Instr} {s s0 u : State}
    (h : runActs (program s i) s0 = .done u ∨ runActs (program s i) s0 = .busFailure u) :
    u.bl = s0.bl := by
  by_cases hc : ∃ o, i = .construct o
  · obtain ⟨o, rfl⟩ := hc
    refine runActs_keeps_of_mem (fun s t => t.bl = s.bl) (fun _ => rfl)
      (fun _ _ _ h1 h2 => h2.trans h1) (fun a ha s t hst => ?_) h
    cases runAct_result hst with
    | pin line v =>
      cases line with
      | bl =>
        simp [program, initActs, initStep1, initStep2, initStep3, initStep4, initStep5, initStep6,
          initStep7, initStep8, initStep9, orientActs, setWindowActs, sendCommandActs,
          sendData8Acts] at ha
      | dc | rst => rfl
    | sent b => cases b <;> rfl
    | width | delay | lost | screen | phase => rfl
  · rcases program_unwired (fun o e => hc ⟨o, e⟩) h with ⟨o, _, e⟩ | ⟨_, e⟩
    · exact (congrArg State.bl e :)
    · exact (congrArg State.bl e :)

theorem exec_backlight {i : Instr} {s t : State} (h : exec i s = .next t)
    (hi : ∀ on, i ≠ .setBacklight on) : t.backlightOn = s.backlightOn ∧ t.bl = s.bl := by
  have hkept := (exec_result h).reading_kept (f := fun s => (s.backlightOn, s.bl)) (fun _ _ _ => rfl)
    (by simp) (fun on e => absurd e (hi on)) (fun _ _ => rfl) fun s0 u hu =>
      Prod.ext (congrArg State.backlightOn (runActs_given hu) :) (program_bl hu)
  simpa using hkept

theorem exec_screen {i : Instr} {s t : State} (h : exec i s = .next t)
    (hi : ∀ o, i ≠ .construct o ∧ i ≠ .setOrientation o ∧ i ≠ .orient o) :
    t.width = s.width ∧ t.height = s.height ∧ t.orient = s.orient := by
  have hkept := (exec_result h).reading_kept (f := fun s => (s.width, s.height, s.orient))
    (fun _ _ _ => rfl) (by simp) (by simp) (fun _ _ => rfl) fun s0 u hu =>
      (congrArg (fun s : State => (s.width, s.height, s.orient))
        (runActs_unwired (program_plain s hi) hu) :)
  simpa using hkept

theorem exec_construction {i : Instr} {s t : State} (h : exec i s = .next t)
    (hi : ∀ o, i ≠ .construct o) : t.ctor = s.ctor ∧ t.rst = s.rst := by
  have hrun (s0 u : State) (hu : runActs (program s i) s0 = .done u ∨
      runActs (program s i) s0 = .busFailure u) : (u.ctor, u.rst) = (s0.ctor, s0.rst) := by
    rcases program_unwired hi hu with ⟨o, _, e⟩ | ⟨_, e⟩
    · exact (congrArg (fun s : State => (s.ctor, s.rst)) e :)
    · exact (congrArg (fun s : State => (s.ctor, s.rst)) e :)
  have hkept := (exec_result h).reading_kept (f := fun s => (s.ctor, s.rst)) (fun _ _ _ => rfl) (by simp)
    (by simp) (fun o e => absurd e (hi o)) hrun
  simpa using hkept

/-- Settles O59, clause by clause. -/
theorem engineStateFrame : Obligations.EngineStateFrame := by
  intro i s t h
  exact ⟨exec_ports h, exec_backlight h, exec_screen h, exec_construction h⟩

/-! ## The reset table -/

/-- Settles O60: the record of the reset state, and no pixel is listed in it. -/
theorem resetValues : Obligations.ResetValues := by
  have hpixel (x y : Nat) : State.reset.pixel x y = none := rfl
  unfold Obligations.ResetValues
  simp only [hpixel, implies_true, and_true]
  decide

end Sys2Proof.Machine
end

section
/-! The port and the step: what a step does with each move of the host, said once for a step that answers
a next state (20 R75, R76, 60 R238, R245). -/

namespace Sys2Proof.Machine

/-! ## A presented operation -/

theorem step_of_decoded {s : State} {p : Presented} {rest : List HostMove} {i : Instr}
    (hb : s.busy = false) (hport : s.port = .present p :: rest) (hp : decode s.cfg p = .ok i) :
    step s = exec i { s with port := rest } := by
  rw [step_of_present s p rest hb hport, hp]

theorem step_place {s : State} {p : Presented} {i : Instr} (hp : decode s.cfg p = .ok i) :
    step (place p s) = exec i { s with busy := false } :=
  step_of_decoded (s := place p s) rfl rfl hp

theorem decode_of_decodeTableWord {nbits w : Nat} {i : Instr} (h : decodeTableWord nbits w = some i) :
    decode Cfg.default (tableWord Cfg.default nbits w) = .ok i := by
  unfold decodeTableWord at h
  split at h
  · rename_i hdecode
    cases h
    exact hdecode
  · cases h

/-- Settles O5: the step at the port, and `withFetchWord` as a placed operation. -/
theorem stepRunsThePresentedInstruction : Obligations.StepRunsThePresentedInstruction := by
  refine ⟨fun s p rest i => step_of_decoded, fun s nbits w i hcfg hword => step_place ?_⟩
  rw [hcfg]
  exact decode_of_decodeTableWord hword

/-! ## The other moves -/

section Supply

variable {s : State} {rest : List HostMove} (hb : s.busy = false)
include hb

theorem step_of_supplyTokens {k : Tokens} (hport : s.port = .supplyTokens k :: rest) :
    step s = .next { s with port := rest, ctorPort := k } := by
  simp [step, fetch, hb, hport]

theorem step_of_supplyBuf {l : List Color565} (hport : s.port = .supplyBuf l :: rest) :
    step s = .next { s with port := rest, buf := l } := by
  simp [step, fetch, hb, hport]

theorem step_of_supplyFont {f : Font} (hport : s.port = .supplyFont f :: rest) :
    step s = .next { s with port := rest, font := f } := by
  simp [step, fetch, hb, hport]

end Supply

/-- Settles O7, one lemma a move. -/
theorem hostMovesBetweenOperations : Obligations.HostMovesBetweenOperations :=
  ⟨fun s h => h.elim (step_of_busy s) (step_of_empty s),
    fun _ _ hb => ⟨fun _ => step_of_supplyBuf hb, fun _ => step_of_supplyFont hb,
      fun _ => step_of_supplyTokens hb⟩⟩

/-! ## Every step -/

/-- Everything a step can have done that answers a next state. -/
inductive StepResult (s : State) : State → Prop
  /-- The lock is taken, or no move stands at the port. -/
  | held : StepResult s s
  /-- The host supplied one of its ports. -/
  | supplied (rest : List HostMove) (k : Tokens) (l : List Color565) (f : Font) :
      StepResult s { s with port := rest, ctorPort := k, buf := l, font := f }
  | executed (i : Instr) (rest : List HostMove) (t : State) :
      exec i { s with port := rest } = .next t → StepResult s t
  /-- A presented operation that no row describes. -/
  | unlisted (p : Presented) (rest : List HostMove) (t : State) :
      notARow p { s with port := rest } = .next t → StepResult s t

/-- The one inversion of `step`, over the moves of the host. -/
theorem step_result {s t : State} (h : step s = .next t) : StepResult s t := by
  by_cases hbusy : s.busy = true
  · rw [step_of_busy s hbusy] at h
    cases h
    exact .held
  have hb : s.busy = false := by simpa using hbusy
  cases hport : s.port with
  | nil =>
    rw [step_of_empty s hport] at h
    cases h
    exact .held
  | cons move rest =>
    cases move with
    | present p =>
      rw [step_of_present s p rest hb hport] at h
      split at h
      · exact .executed _ rest t h
      · exact .unlisted p rest t h
    | supplyTokens k =>
      rw [step_of_supplyTokens hb hport] at h
      cases h
      exact .supplied rest k s.buf s.font
    | supplyBuf l =>
      rw [step_of_supplyBuf hb hport] at h
      cases h
      exact .supplied rest s.ctorPort l s.font
    | supplyFont f =>
      rw [step_of_supplyFont hb hport] at h
      cases h
      exact .supplied rest s.ctorPort s.buf f

end Sys2Proof.Machine
end

section
/-! Single batches: the refusal of a batch at the wrong width (20 R69, 41 R127), and data received in
two batches (20 R63, 41 R131). -/

namespace Sys2Proof.Machine

/-! ## The wrong width -/

theorem busWriteRun_refused {b : Batch} {s : State} (hw : s.busWidth ≠ batchWidth b) :
    busWriteRun b s = .refused (batchRefusal b) := if_neg hw

/-- A batch at the wrong width is refused after its mode-select line, whatever the level. -/
theorem procedure_transfer_refused (level : Level) {b : Batch} {s : State}
    (hw : s.busWidth ≠ batchWidth b) :
    procedure [.pin .dc level, .write b] s = .refused (batchRefusal b) := by
  rw [procedure, runActs_transfer_eq, busWriteRun_refused (by simpa using hw)]

/-- The same of a bare batch. -/
theorem procedure_write_refused {b : Batch} {s : State} (hw : s.busWidth ≠ batchWidth b) :
    procedure [.write b] s = .refused (batchRefusal b) := by
  simp [procedure, runActs_cons, runAct, busWriteRun_refused hw]

/-- Settles O13: each of the five calls is one batch at the wrong width. -/
theorem wrongWidthRefused : Obligations.WrongWidthRefused := by
  intro s words bytes op
  refine ⟨fun h8 => ?_, fun h16 => ?_⟩
  · have hw : s.busWidth ≠ batchWidth (.words words) := by simp [h8, batchWidth]
    exact ⟨procedure_transfer_refused _ hw, procedure_write_refused hw⟩
  · have hw (l : List Byte) : s.busWidth ≠ batchWidth (.bytes l) := by simp [h16, batchWidth]
    exact ⟨procedure_transfer_refused _ (hw bytes), procedure_transfer_refused _ (hw [op]),
      procedure_write_refused (hw bytes)⟩

/-! ## Two batches of data -/

theorem receive_data8 {cfg : Cfg} (hwf : cfg.wf) (w h n : Nat) (l : List Byte) (p : Panel) :
    p.receive cfg (.driven cfg.dcDataLevel) w h n (.write8 l) = l.foldl (Panel.dataByte cfg w h) p := by
  simp [Panel.receive, lineMode_data hwf]

theorem receive_data16 {cfg : Cfg} (hwf : cfg.wf) (w h n : Nat) (l : List Word16) (p : Panel) :
    p.receive cfg (.driven cfg.dcDataLevel) w h n (.write16 l) = l.foldl (Panel.dataWord cfg w h) p := by
  simp [Panel.receive, lineMode_data hwf]

/-- Settles O25: data is received unit by unit, so a batch is a fold that can be cut anywhere. -/
theorem batchBoundariesDoNotMatter : Obligations.BatchBoundariesDoNotMatter := by
  intro cfg w h n m p hwf
  refine ⟨fun a b => ?_, fun a b => ?_⟩
  · simp only [receive_data8 hwf, List.foldl_append]
  · simp only [receive_data16 hwf, List.foldl_append]

end Sys2Proof.Machine
end

section
/-! The trace only grows, each batch at its own transfer width (20 R62, R79, 41 R129, R130), from one
action over lists of actions and instructions to a step. -/

namespace Sys2Proof.Machine

/-! ## Two lists of events in a row -/

theorem widthAfter_append (w : BusWidth) (es es' : List Event) :
    widthAfter w (es ++ es') = widthAfter (widthAfter w es) es' := by
  induction es generalizing w with
  | nil => rfl
  | cons e es ih => cases e <;> exact ih _

theorem widthDiscipline_append (w : BusWidth) (es es' : List Event) :
    widthDiscipline w (es ++ es') =
      (widthDiscipline w es && widthDiscipline (widthAfter w es) es') := by
  induction es generalizing w with
  | nil => rfl
  | cons e es ih => cases e <;> simp [widthDiscipline, widthAfter, ih, Bool.and_assoc]

/-! ## The relation from a state to a later one -/

/-- From `s` to `t` the trace grew by events that keep to the transfer width, starting at that of `s` and
ending at that of `t`, and the transfer count did not fall. -/
def State.Grows (s t : State) : Prop :=
  ∃ es, t.trace = s.trace ++ es ∧ s.xfer ≤ t.xfer ∧ widthDiscipline s.busWidth es = true ∧
    t.busWidth = widthAfter s.busWidth es

theorem State.Grows.trans {s t u : State} (h1 : s.Grows t) (h2 : t.Grows u) : s.Grows u := by
  obtain ⟨es, htrace, hxfer, hdisc, hwidth⟩ := h1
  obtain ⟨es', htrace', hxfer', hdisc', hwidth'⟩ := h2
  rw [hwidth] at hdisc' hwidth'
  exact ⟨es ++ es', by rw [htrace', htrace, List.append_assoc], hxfer.trans hxfer',
    by rw [widthDiscipline_append, hdisc, hdisc', Bool.and_self],
    by rw [widthAfter_append, hwidth']⟩

/-- No event and the width as it was. -/
theorem grows_of_same {s t : State} (htrace : t.trace = s.trace) (hxfer : s.xfer ≤ t.xfer)
    (hwidth : t.busWidth = s.busWidth) : s.Grows t :=
  ⟨[], by simpa using htrace, hxfer, rfl, hwidth⟩

theorem State.Grows.refl (s : State) : s.Grows s := grows_of_same rfl le_rfl rfl

/-- One event that leaves the width alone and, if it is a bus write, comes at its width. -/
theorem emit_grows {e : Event} {s : State} (hdisc : widthDiscipline s.busWidth [e] = true)
    (hwidth : widthAfter s.busWidth [e] = s.busWidth) : s.Grows (emit e s) :=
  ⟨[e], emit_trace e s, by simp, hdisc, by simp [hwidth]⟩

theorem setWidth_grows (w : BusWidth) (s : State) : s.Grows (setWidth w s) :=
  ⟨[.busWidth w], rfl, le_rfl, rfl, rfl⟩

/-- A batch that is sent comes at its own width. -/
theorem emit_batch_grows {b : Batch} {s : State} (hw : s.busWidth = batchWidth b) :
    s.Grows (emit (batchEvent b) s) := by
  cases b <;> exact emit_grows (by simp [hw, batchEvent, batchWidth, widthDiscipline]) rfl

/-! ## Actions, instructions, steps -/

/-- Only a batch at its own width ends or fails (R130, U11). -/
theorem runAct_write_width {b : Batch} {s t : State}
    (h : runAct (.write b) s = .done t ∨ runAct (.write b) s = .busFailure t) :
    s.busWidth = batchWidth b := by
  by_contra hw
  simp [runAct, busWriteRun_refused hw] at h

theorem runAct_grows {a : Act} {s t : State} (h : runAct a s = .done t ∨ runAct a s = .busFailure t) :
    s.Grows t := by
  cases runAct_result h with
  | pin line v => exact emit_grows rfl rfl
  | delay ms => exact emit_grows rfl rfl
  | width w => exact setWidth_grows w s
  | sent b =>
    have hw := runAct_write_width h
    have hcounted : s.Grows { s with xfer := s.xfer + 1 } := grows_of_same rfl (Nat.le_succ _) rfl
    exact hcounted.trans (emit_batch_grows hw)
  | lost b => exact grows_of_same rfl (Nat.le_succ _) rfl
  | screen o => exact grows_of_same rfl le_rfl rfl
  | phase p => exact grows_of_same rfl le_rfl rfl

theorem runActs_grows {l : List Act} {s t : State}
    (h : runActs l s = .done t ∨ runActs l s = .busFailure t) : s.Grows t :=
  runActs_keeps State.Grows .refl (fun _ _ _ => .trans) (fun _ _ _ => runAct_grows) l s t h

/-- The width restoration of a bus failure is an event of the trace (R231). -/
theorem takeBusFailure_grows (s : State) : s.Grows (takeBusFailure s) := by
  have hrestored : s.Grows (restoreWidth s) := by
    unfold restoreWidth
    split
    · exact setWidth_grows .w8 s
    · exact .refl s
  exact hrestored.trans (grows_of_same rfl le_rfl rfl)

theorem procedure_grows {acts : List Act} {s t : State} (h : procedure acts s = .next t) :
    s.Grows t := by
  rcases procedure_next acts s t h with hdone | ⟨u, hfail, rfl⟩
  · exact runActs_grows (.inl hdone)
  · exact (runActs_grows (.inr hfail)).trans (takeBusFailure_grows u)

theorem Entry.grows {i : Instr} {s s0 : State} (he : Entry i s s0) : s.Grows s0 := by
  cases he <;> exact grows_of_same rfl le_rfl rfl

theorem exec_grows {i : Instr} {s t : State} (h : exec i s = .next t) : s.Grows t := by
  cases exec_result h with
  | quiet r => exact grows_of_same rfl le_rfl rfl
  | backlight on hi => exact (emit_grows rfl rfl).trans (grows_of_same rfl le_rfl rfl)
  | finished _ hi hdone => exact runActs_grows (.inl hdone)
  | answered s0 u st he hdone =>
    exact (he.grows.trans (runActs_grows (.inl hdone))).trans (grows_of_same rfl le_rfl rfl)
  | failed s0 u he hfail =>
    exact (he.grows.trans (runActs_grows (.inr hfail))).trans (takeBusFailure_grows u)

theorem notARow_grows {p : Presented} {s t : State} (h : notARow p s = .next t) : s.Grows t := by
  cases p with
  | request w =>
    cases h
    exact grows_of_same rfl le_rfl rfl
  | frame bytes =>
    cases bytes with
    | nil =>
      cases h
      exact .refl s
    | cons b params => exact procedure_grows h
  | call i =>
    cases h
    exact .refl s

theorem step_grows {s t : State} (h : step s = .next t) : s.Grows t := by
  have htaken (rest : List HostMove) : s.Grows { s with port := rest } := grows_of_same rfl le_rfl rfl
  cases step_result h with
  | held => exact .refl s
  | supplied rest k l f => exact grows_of_same rfl le_rfl rfl
  | executed i rest _ hexec => exact (htaken rest).trans (exec_grows hexec)
  | unlisted p rest _ hrow => exact (htaken rest).trans (notARow_grows hrow)

/-- Settles O55: single actions keep the relation, and so do programs, instructions and steps. -/
theorem traceGrowsByWidthDiscipline : Obligations.TraceGrowsByWidthDiscipline :=
  fun _ _ => step_grows

end Sys2Proof.Machine
end

section
/-! The request word and the wire frame in both directions (30 R90 to R104): the fields of narrower
values, the decoder and the encoder as inverse relations, and the rows of the table. -/

namespace Sys2Proof

/-! ## A value in the low bits of a wider field -/

theorem extractLsb'_low_setWidth {k m : Nat} (y : BitVec k) (h : k ≤ m) :
    (y.setWidth m).extractLsb' 0 k = y := by
  rw [BitVec.extractLsb'_setWidth_of_le (by omega), BitVec.extractLsb'_eq_self]

theorem extractLsb'_high_setWidth {k m : Nat} (n : Nat) (y : BitVec k) :
    (y.setWidth m).extractLsb' k n = 0#n := by
  ext i hi
  simp

/-- A field whose upper part is zero is its lower part. -/
theorem setWidth_extractLsb'_low {k n : Nat} {x : BitVec (k + n)} (h : x.extractLsb' k n = 0#n) :
    (x.extractLsb' 0 k).setWidth (k + n) = x := by
  ext i hi
  by_cases hk : i < k
  · simp [hk, BitVec.getLsbD_eq_getElem hi]
  · have hin : i - k < n := by omega
    have hik : k + (i - k) = i := by omega
    have hbit : x[i] = false := by
      simpa [hin, hik, hi] using congrArg (fun y : BitVec n => y.getLsbD (i - k)) h
    simp [hk, hbit]

/-- Bits that a mask selects and that read zero are zero. -/
theorem extractLsb'_of_mask {m : Nat} (k n : Nat) {x mask : BitVec m} (h : x &&& mask = 0#m)
    (hmask : mask.extractLsb' k n = BitVec.allOnes n) : x.extractLsb' k n = 0#n := by
  have hpart := congrArg (BitVec.extractLsb' k n) h
  rw [BitVec.extractLsb'_and, hmask, BitVec.and_allOnes] at hpart
  rw [hpart]
  simp

/-! ## Request words -/

/-- A request word of the encoder is decoded from the fields it was packed from. -/
theorem decodeRequest_reqWord (op : BitVec 4) (cfmt : BitVec 1) (a0 a1 a2 a3 : Word16)
    (color : BitVec 24) :
    decodeRequest (reqWord op cfmt a0 a1 a2 a3 color) =
      decodeFields ⟨op, cfmt, 0, a0, a1, a2, a3, color⟩ := by
  rw [decodeRequest, reqWord, unpack_pack]

theorem decodeRequest_of_encode {cfg : Cfg} {i : Instr} {w : BitVec 96}
    (h : encode cfg i = .request w) : decodeRequest w = .ok i := by
  have hlow (c : Color565) := extractLsb'_low_setWidth (m := 24) c (by omega)
  have hhigh (c : Color565) := extractLsb'_high_setWidth (m := 24) 8 c
  have horient (mk : Orientation → Instr) (op : BitVec 4) (o : Orientation) :
      decodeOrientation ⟨op, 0, 0, o.code.setWidth 16, 0, 0, 0, 0⟩ mk = .ok (mk o) := by
    simp [decodeOrientation, extractLsb'_low_setWidth (m := 16) o.code (by omega),
      extractLsb'_high_setWidth (m := 16) 14 o.code]
  cases i with
  | construct o => cases h; exact (decodeRequest_reqWord ..).trans (horient .construct 0x0 o)
  | setOrientation o => cases h; exact (decodeRequest_reqWord ..).trans (horient .setOrientation 0x1 o)
  | setBacklight on =>
    cases h
    cases on <;> decide
  | toColor565 c => cases h; exact decodeRequest_reqWord ..
  | drawPixel888 x y c => cases h; exact decodeRequest_reqWord ..
  | drawCircle888 x y r c => cases h; exact decodeRequest_reqWord ..
  | flush x y width height => cases h; exact decodeRequest_reqWord ..
  | clearScreen => cases h; exact decodeRequest_reqWord ..
  | drawPixel565 x y c =>
    cases h
    have hpixel : decodeDrawPixel ⟨0x4, 0, 0, x, y, 0, 0, c.setWidth 24⟩ =
        .ok (.drawPixel565 x y c) := by
      simp [decodeDrawPixel, ReqFields.c565, hlow c, hhigh c]
    exact (decodeRequest_reqWord ..).trans hpixel
  | fillRect l r t b c =>
    cases h
    have hrect : decodeFillRect ⟨0x5, 0, 0, l, r, t, b, c.setWidth 24⟩ = .ok (.fillRect l r t b c) := by
      simp [decodeFillRect, ReqFields.c565, hlow c, hhigh c]
    exact (decodeRequest_reqWord ..).trans hrect
  | drawCircle565 x y r c =>
    cases h
    have hcircle : decodeDrawCircle ⟨0x6, 0, 0, x, y, r, 0, c.setWidth 24⟩ =
        .ok (.drawCircle565 x y r c) := by
      simp [decodeDrawCircle, ReqFields.c565, hlow c, hhigh c]
    exact (decodeRequest_reqWord ..).trans hcircle
  | fillScreen c =>
    cases h
    have hfill : decodeFillScreen ⟨0x9, 0, 0, 0, 0, 0, 0, c.setWidth 24⟩ = .ok (.fillScreen c) := by
      simp [decodeFillScreen, ReqFields.c565, hlow c, hhigh c]
    exact (decodeRequest_reqWord ..).trans hfill
  | _ => cases h

/-- A coloured request with `cfmt = 0` holds its colour in the low bits (R101). -/
theorem setWidth_c565 {f : ReqFields} (h : f.color.extractLsb' 16 8 = 0) :
    f.c565.setWidth 24 = f.color :=
  setWidth_extractLsb'_low (k := 16) (n := 8) h

theorem setWidth_code_ofCode {a : Word16} (h : a.extractLsb' 2 14 = 0) :
    (Orientation.ofCode (a.extractLsb' 0 2)).code.setWidth 16 = a := by
  rw [code_ofCode]
  exact setWidth_extractLsb'_low (k := 2) (n := 14) h

theorem flag_of_bit {a : Word16} (h : a.extractLsb' 1 15 = 0) :
    (if a.getLsbD 0 then 1 else 0 : Word16) = a := by
  have hflag : ∀ b : BitVec 1, (if b.getLsbD 0 then 1 else 0 : Word16) = b.setWidth 16 := by decide
  have hbit := hflag (a.extractLsb' 0 1)
  rw [setWidth_extractLsb'_low (k := 1) (n := 15) h] at hbit
  simpa using hbit

/-- What the field decoder has found when it answers an instruction (R102 to R104). -/
theorem decodeFields_ok {f : ReqFields} {i : Instr} (h : decodeFields f = .ok i) :
    f.rsv = 0 ∧
    (f.op = 0x0 ∧ decodeOrientation f .construct = .ok i ∨
      f.op = 0x1 ∧ decodeOrientation f .setOrientation = .ok i ∨
      f.op = 0x2 ∧ decodeBacklight f = .ok i ∨ f.op = 0x3 ∧ decodeToColor565 f = .ok i ∨
      f.op = 0x4 ∧ decodeDrawPixel f = .ok i ∨ f.op = 0x5 ∧ decodeFillRect f = .ok i ∨
      f.op = 0x6 ∧ decodeDrawCircle f = .ok i ∨ f.op = 0x7 ∧ decodeFlush f = .ok i ∨
      f.op = 0x8 ∧ decodeClearScreen f = .ok i ∨ f.op = 0x9 ∧ decodeFillScreen f = .ok i) := by
  have hite {c : Prop} [Decidable c] {x y : Except Reject Instr} (h : (if c then x else y) = .ok i) :
      c ∧ x = .ok i ∨ y = .ok i := (ite_eq_iff.1 h).imp_right And.right
  unfold decodeFields at h
  by_cases hrsv : f.rsv = 0
  · rw [if_neg (not_not.2 hrsv)] at h
    refine ⟨hrsv, ?_⟩
    iterate 9 refine (hite h).imp_right fun h => ?_
    exact (hite h).resolve_right nofun
  · rw [if_pos hrsv] at h
    cases h

/-- A request word is the packing of fields that have its operands, one by one. -/
theorem reqWord_eq_pack {f : ReqFields} {op : BitVec 4} {cfmt : BitVec 1} {a0 a1 a2 a3 : Word16}
    {color : BitVec 24} (hrsv : f.rsv = 0) (hop : f.op = op) (hcfmt : f.cfmt = cfmt) (ha0 : f.a0 = a0)
    (ha1 : f.a1 = a1) (ha2 : f.a2 = a2) (ha3 : f.a3 = a3) (hcolor : f.color = color) :
    Presented.request (reqWord op cfmt a0 a1 a2 a3 color) = .request f.pack := by
  subst hop hcfmt ha0 ha1 ha2 ha3 hcolor
  rw [reqWord, ← hrsv]

section OneOperation

variable {f : ReqFields} {i : Instr} (cfg : Cfg) (hrsv : f.rsv = 0)
include hrsv

theorem encode_of_decodeOrientation {op : BitVec 4} {mk : Orientation → Instr}
    (hmk : ∀ o, encode cfg (mk o) = .request (reqWord op 0 (o.code.setWidth 16) 0 0 0 0))
    (hop : f.op = op) (h : decodeOrientation f mk = .ok i) : encode cfg i = .request f.pack := by
  unfold decodeOrientation at h
  split_ifs at h with hcfmt hfields
  cases h
  simp only [not_or, not_not] at hcfmt hfields
  obtain ⟨ha0, ha1, ha2, ha3, hcolor⟩ := hfields
  rw [hmk, setWidth_code_ofCode ha0]
  exact reqWord_eq_pack hrsv hop hcfmt rfl ha1 ha2 ha3 hcolor

theorem encode_of_decodeBacklight (hop : f.op = 0x2) (h : decodeBacklight f = .ok i) :
    encode cfg i = .request f.pack := by
  unfold decodeBacklight at h
  split_ifs at h with hcfmt hfields
  cases h
  simp only [not_or, not_not] at hcfmt hfields
  obtain ⟨ha0, ha1, ha2, ha3, hcolor⟩ := hfields
  rw [encode, flag_of_bit ha0]
  exact reqWord_eq_pack hrsv hop hcfmt rfl ha1 ha2 ha3 hcolor

theorem encode_of_decodeToColor565 (hop : f.op = 0x3) (h : decodeToColor565 f = .ok i) :
    encode cfg i = .request f.pack := by
  unfold decodeToColor565 at h
  split_ifs at h with hcfmt hfields
  cases h
  simp only [not_or, not_not] at hcfmt hfields
  obtain ⟨ha0, ha1, ha2, ha3⟩ := hfields
  exact reqWord_eq_pack hrsv hop hcfmt ha0 ha1 ha2 ha3 rfl

theorem encode_of_decodeDrawPixel (hop : f.op = 0x4) (h : decodeDrawPixel f = .ok i) :
    encode cfg i = .request f.pack := by
  unfold decodeDrawPixel at h
  split_ifs at h with hfields hcfmt hcolor <;> simp only [not_or, not_not] at hfields <;>
    obtain ⟨ha2, ha3⟩ := hfields <;> cases h
  · exact reqWord_eq_pack hrsv hop hcfmt rfl rfl ha2 ha3 rfl
  · have hcfmt0 : f.cfmt = 0 := by bv_omega
    exact reqWord_eq_pack hrsv hop hcfmt0 rfl rfl ha2 ha3 (setWidth_c565 (not_not.1 hcolor)).symm

theorem encode_of_decodeFillRect (hop : f.op = 0x5) (h : decodeFillRect f = .ok i) :
    encode cfg i = .request f.pack := by
  unfold decodeFillRect at h
  split_ifs at h with hcfmt hcolor
  cases h
  exact reqWord_eq_pack hrsv hop (not_not.1 hcfmt) rfl rfl rfl rfl
    (setWidth_c565 (not_not.1 hcolor)).symm

theorem encode_of_decodeDrawCircle (hop : f.op = 0x6) (h : decodeDrawCircle f = .ok i) :
    encode cfg i = .request f.pack := by
  unfold decodeDrawCircle at h
  split_ifs at h with ha3 hcfmt hcolor <;> cases h
  · exact reqWord_eq_pack hrsv hop hcfmt rfl rfl rfl (not_not.1 ha3) rfl
  · have hcfmt0 : f.cfmt = 0 := by bv_omega
    exact reqWord_eq_pack hrsv hop hcfmt0 rfl rfl rfl (not_not.1 ha3)
      (setWidth_c565 (not_not.1 hcolor)).symm

theorem encode_of_decodeFlush (hop : f.op = 0x7) (h : decodeFlush f = .ok i) :
    encode cfg i = .request f.pack := by
  unfold decodeFlush at h
  split_ifs at h with hcfmt hcolor
  cases h
  exact reqWord_eq_pack hrsv hop (not_not.1 hcfmt) rfl rfl rfl rfl (not_not.1 hcolor)

theorem encode_of_decodeClearScreen (hop : f.op = 0x8) (h : decodeClearScreen f = .ok i) :
    encode cfg i = .request f.pack := by
  unfold decodeClearScreen at h
  split_ifs at h with hcfmt hfields
  cases h
  simp only [not_or, not_not] at hcfmt hfields
  obtain ⟨ha0, ha1, ha2, ha3, hcolor⟩ := hfields
  exact reqWord_eq_pack hrsv hop hcfmt ha0 ha1 ha2 ha3 hcolor

theorem encode_of_decodeFillScreen (hop : f.op = 0x9) (h : decodeFillScreen f = .ok i) :
    encode cfg i = .request f.pack := by
  unfold decodeFillScreen at h
  split_ifs at h with hcfmt hfields hcolor
  cases h
  simp only [not_or, not_not] at hcfmt hfields hcolor
  obtain ⟨ha0, ha1, ha2, ha3⟩ := hfields
  exact reqWord_eq_pack hrsv hop hcfmt ha0 ha1 ha2 ha3 (setWidth_c565 hcolor).symm

end OneOperation

/-- The converse of `decodeRequest_of_encode`, operation by operation. -/
theorem encode_of_decodeRequest (cfg : Cfg) {i : Instr} {w : BitVec 96}
    (h : decodeRequest w = .ok i) : encode cfg i = .request w := by
  rw [← pack_unpack w]
  obtain ⟨hrsv, hcase⟩ := decodeFields_ok h
  rcases hcase with ⟨hop, h⟩ | ⟨hop, h⟩ | ⟨hop, h⟩ | ⟨hop, h⟩ | ⟨hop, h⟩ | ⟨hop, h⟩ | ⟨hop, h⟩ |
    ⟨hop, h⟩ | ⟨hop, h⟩ | ⟨hop, h⟩
  · exact encode_of_decodeOrientation cfg hrsv (mk := .construct) (fun _ => rfl) hop h
  · exact encode_of_decodeOrientation cfg hrsv (mk := .setOrientation) (fun _ => rfl) hop h
  · exact encode_of_decodeBacklight cfg hrsv hop h
  · exact encode_of_decodeToColor565 cfg hrsv hop h
  · exact encode_of_decodeDrawPixel cfg hrsv hop h
  · exact encode_of_decodeFillRect cfg hrsv hop h
  · exact encode_of_decodeDrawCircle cfg hrsv hop h
  · exact encode_of_decodeFlush cfg hrsv hop h
  · exact encode_of_decodeClearScreen cfg hrsv hop h
  · exact encode_of_decodeFillScreen cfg hrsv hop h

/-- Every operand value of a request operation is well formed. -/
theorem wf_of_encode_request {cfg : Cfg} {i : Instr} {w : BitVec 96} (h : encode cfg i = .request w) :
    i.wf cfg = true := by
  cases i with
  | gamset | pixset | frmctr | dfunctr | etmod => cases h
  | _ => rfl

/-! ## Frames -/

theorem decodeFrame_opcode {cfg : Cfg} (hwf : cfg.opcodes.Nodup) (c : WireCmd) (params : List Byte) :
    decodeFrame cfg (cfg.opcode c :: params) = decodeParams cfg c params := by
  simp [decodeFrame, command?_opcode cfg hwf]

/-- A well-formed instruction that is sent as a frame is read back from it (R92, R94, R133). -/
theorem decodeFrame_of_encode {cfg : Cfg} (hwf : cfg.opcodes.Nodup) {i : Instr} {bytes : List Byte}
    (hi : i.wf cfg = true) (h : encode cfg i = .frame bytes) : decodeFrame cfg bytes = .ok i := by
  have hrow (c : WireCmd) (params : List Byte) (hp : decodeParams cfg c params = .ok i) :
      decodeFrame cfg (cfg.opcode c :: params) = .ok i :=
    (decodeFrame_opcode hwf c params).trans hp
  cases i with
  | swreset => cases h; exact hrow .swreset [] rfl
  | slpout => cases h; exact hrow .slpout [] rfl
  | dispoff => cases h; exact hrow .dispoff [] rfl
  | dispon => cases h; exact hrow .dispon [] rfl
  | ramwr => cases h; exact hrow .ramwr [] rfl
  | madctl b => cases h; exact hrow .madctl [b] rfl
  | caset l r => cases h; exact hrow .caset _ (by simp [be16, decodeParams])
  | paset t b => cases h; exact hrow .paset _ (by simp [be16, decodeParams])
  | gamset p => cases h; exact hrow .gamset p (if_pos (by simpa [Instr.wf] using hi))
  | pixset p => cases h; exact hrow .pixset p (if_pos (by simpa [Instr.wf] using hi))
  | frmctr p => cases h; exact hrow .frmctr p (if_pos (by simpa [Instr.wf] using hi))
  | dfunctr p => cases h; exact hrow .dfunctr p (if_pos (by simpa [Instr.wf] using hi))
  | etmod p => cases h; exact hrow .etmod p (if_pos (by simpa [Instr.wf] using hi))
  | _ => cases h

/-- A parameter list that decodes is that of its instruction, with the right count (R133). -/
theorem encode_of_decodeParams {cfg : Cfg} {c : WireCmd} {params : List Byte} {i : Instr}
    (h : decodeParams cfg c params = .ok i) :
    i.wf cfg = true ∧ encode cfg i = .frame (cfg.opcode c :: params) := by
  cases c with
  | swreset | slpout | dispoff | dispon | ramwr =>
    cases params <;> cases h
    exact ⟨rfl, rfl⟩
  | madctl =>
    rcases params with _ | ⟨b, _ | _⟩ <;> cases h
    exact ⟨rfl, rfl⟩
  | caset | paset =>
    rcases params with _ | ⟨b0, _ | ⟨b1, _ | ⟨b2, _ | ⟨b3, _ | _⟩⟩⟩⟩ <;> cases h
    simp [Instr.wf, encode, be16_ofBe16, Cfg.opcode]
  | gamset | pixset | frmctr | dfunctr | etmod =>
    simp only [decodeParams] at h
    split_ifs at h with hlen
    cases h
    exact ⟨beq_iff_eq.2 hlen, rfl⟩

theorem encode_of_decodeFrame {cfg : Cfg} {bytes : List Byte} {i : Instr}
    (h : decodeFrame cfg bytes = .ok i) : i.wf cfg = true ∧ encode cfg i = .frame bytes := by
  cases bytes with
  | nil => cases h
  | cons b params =>
    rw [decodeFrame] at h
    split at h
    · cases h
    · rename_i c hc
      obtain rfl := opcode_of_command? cfg b c hc
      exact encode_of_decodeParams h

/-! ## The round trip -/

/-- Settles O1, by the three forms an operation is presented in. -/
theorem decodeOfEncode : Obligations.DecodeOfEncode := by
  intro cfg i hwf hi
  cases hp : encode cfg i with
  | request w => exact decodeRequest_of_encode hp
  | frame bytes => exact decodeFrame_of_encode hwf.nodup hi hp
  | call j =>
    cases i with
    | sendCommand | sendData8 | sendData16 | setBusWidth | busWrite | setWindow | orient | drawChar
    | drawString =>
      cases hp
      rfl
    | _ => cases hp

/-- Settles O2: each decoder is the inverse of the encoder on its own form. -/
theorem decodedBitsAreTheEncoding : Obligations.DecodedBitsAreTheEncoding := by
  refine ⟨fun cfg w i h => ?_, fun _ _ _ => encode_of_decodeFrame⟩
  have hword := encode_of_decodeRequest cfg h
  exact ⟨wf_of_encode_request hword, hword⟩

/-! ## The rows of the table -/

/-- The encoding of a request operation lies in the row with its mnemonic. -/
theorem row_of_encode {cfg : Cfg} {i : Instr} {w : BitVec 96} (h : encode cfg i = .request w) :
    ∃ r ∈ requestRows, r.mnemonic = i.mnemonic ∧ w &&& r.mask = r.pat := by
  cases i with
  | construct o => exact (Laws.OwnRow.construct o cfg).1 w h
  | setOrientation o => exact (Laws.OwnRow.setOrientation o cfg).1 w h
  | setBacklight on => exact (Laws.OwnRow.setBacklight on cfg).1 w h
  | toColor565 c => exact (Laws.OwnRow.toColor565 c cfg).1 w h
  | drawPixel565 x y c => exact (Laws.OwnRow.drawPixel565 x y c cfg).1 w h
  | drawPixel888 x y c => exact (Laws.OwnRow.drawPixel888 x y c cfg).1 w h
  | fillRect l r t b c => exact (Laws.OwnRow.fillRect l r t b c cfg).1 w h
  | drawCircle565 x y r c => exact (Laws.OwnRow.drawCircle565 x y r c cfg).1 w h
  | drawCircle888 x y r c => exact (Laws.OwnRow.drawCircle888 x y r c cfg).1 w h
  | flush x y width height => exact (Laws.OwnRow.flush x y width height cfg).1 w h
  | clearScreen => exact (Laws.OwnRow.clearScreen cfg).1 w h
  | fillScreen c => exact (Laws.OwnRow.fillScreen c cfg).1 w h
  | _ => cases h

theorem row_ext_mnemonic {r q : TableRow} (hr : r ∈ requestRows) (hq : q ∈ requestRows)
    (h : r.mnemonic = q.mnemonic) : r = q := by
  have hnodup : (requestRows.map TableRow.mnemonic).Nodup := by decide
  exact List.inj_on_of_nodup_map hnodup hr hq h

/-- A word that matches a row whose pattern fixes `op` and `cfmt` has these, no reserved bit, and zero
under the row's mask in every other field. -/
theorem fields_of_row {f : ReqFields} {mask pat : BitVec 96} (op : BitVec 4) (cfmt : BitVec 1)
    (m0 m1 m2 m3 : Word16) (mc : BitVec 24)
    (hmask : mask = ReqFields.pack ⟨.allOnes 4, .allOnes 1, .allOnes 3, m0, m1, m2, m3, mc⟩)
    (hpat : pat = reqWord op cfmt 0 0 0 0 0) (h : f.pack &&& mask = pat) :
    f.op = op ∧ f.cfmt = cfmt ∧ f.rsv = 0 ∧ f.a0 &&& m0 = 0 ∧ f.a1 &&& m1 = 0 ∧ f.a2 &&& m2 = 0 ∧
    f.a3 &&& m3 = 0 ∧ f.color &&& mc = 0 := by
  rw [hmask, hpat, pack_and] at h
  simpa only [BitVec.and_allOnes, ReqFields.mk.injEq] using pack_inj h

/-- Conversely, a word that matches a row is the encoding of an operation of that row. -/
theorem encode_of_row {f : ReqFields} {r : TableRow} (cfg : Cfg) (hr : r ∈ requestRows)
    (h : f.pack &&& r.mask = r.pat) :
    ∃ i, encode cfg i = .request f.pack ∧ i.mnemonic = r.mnemonic := by
  have hcolour (hc : f.color &&& 0xFF0000 = 0) : f.color = f.c565.setWidth 24 :=
    (setWidth_c565 (extractLsb'_of_mask 16 8 hc (by decide))).symm
  have horient (ha : f.a0 &&& 0xFFFC = 0) :
      f.a0 = (Orientation.ofCode (f.a0.extractLsb' 0 2)).code.setWidth 16 :=
    (setWidth_code_ofCode (extractLsb'_of_mask 2 14 ha (by decide))).symm
  have hflag (ha : f.a0 &&& 0xFFFE = 0) : f.a0 = if f.a0.getLsbD 0 then 1 else 0 :=
    (flag_of_bit (extractLsb'_of_mask 1 15 ha (by decide))).symm
  have hfull {n : Nat} {x : BitVec n} (hx : x &&& .allOnes n = 0) : x = 0 := by
    rwa [BitVec.and_allOnes] at hx
  simp only [requestRows, List.mem_cons, List.not_mem_nil, or_false] at hr
  rcases hr with rfl | rfl | rfl | rfl | rfl | rfl | rfl | rfl | rfl | rfl | rfl | rfl
  · obtain ⟨hop, hcfmt, hrsv, ha0, ha1, ha2, ha3, hcolor⟩ := fields_of_row 0x0 0 0xFFFC (.allOnes 16)
      (.allOnes 16) (.allOnes 16) (.allOnes 24) (by decide) (by decide) h
    exact ⟨.construct (.ofCode (f.a0.extractLsb' 0 2)), reqWord_eq_pack hrsv hop hcfmt
      (horient ha0) (hfull ha1) (hfull ha2) (hfull ha3) (hfull hcolor), rfl⟩
  · obtain ⟨hop, hcfmt, hrsv, ha0, ha1, ha2, ha3, hcolor⟩ := fields_of_row 0x1 0 0xFFFC (.allOnes 16)
      (.allOnes 16) (.allOnes 16) (.allOnes 24) (by decide) (by decide) h
    exact ⟨.setOrientation (.ofCode (f.a0.extractLsb' 0 2)), reqWord_eq_pack hrsv hop hcfmt
      (horient ha0) (hfull ha1) (hfull ha2) (hfull ha3) (hfull hcolor), rfl⟩
  · obtain ⟨hop, hcfmt, hrsv, ha0, ha1, ha2, ha3, hcolor⟩ := fields_of_row 0x2 0 0xFFFE (.allOnes 16)
      (.allOnes 16) (.allOnes 16) (.allOnes 24) (by decide) (by decide) h
    exact ⟨.setBacklight (f.a0.getLsbD 0), reqWord_eq_pack hrsv hop hcfmt (hflag ha0)
      (hfull ha1) (hfull ha2) (hfull ha3) (hfull hcolor), rfl⟩
  · obtain ⟨hop, hcfmt, hrsv, ha0, ha1, ha2, ha3, -⟩ := fields_of_row 0x3 1 (.allOnes 16) (.allOnes 16)
      (.allOnes 16) (.allOnes 16) 0 (by decide) (by decide) h
    exact ⟨.toColor565 f.color, reqWord_eq_pack hrsv hop hcfmt (hfull ha0) (hfull ha1) (hfull ha2)
      (hfull ha3) rfl, rfl⟩
  · obtain ⟨hop, hcfmt, hrsv, -, -, ha2, ha3, hcolor⟩ := fields_of_row 0x4 0 0 0 (.allOnes 16)
      (.allOnes 16) 0xFF0000 (by decide) (by decide) h
    exact ⟨.drawPixel565 f.a0 f.a1 f.c565, reqWord_eq_pack hrsv hop hcfmt rfl rfl (hfull ha2)
      (hfull ha3) (hcolour hcolor), rfl⟩
  · obtain ⟨hop, hcfmt, hrsv, -, -, ha2, ha3, -⟩ := fields_of_row 0x4 1 0 0 (.allOnes 16)
      (.allOnes 16) 0 (by decide) (by decide) h
    exact ⟨.drawPixel888 f.a0 f.a1 f.color, reqWord_eq_pack hrsv hop hcfmt rfl rfl (hfull ha2)
      (hfull ha3) rfl, rfl⟩
  · obtain ⟨hop, hcfmt, hrsv, -, -, -, -, hcolor⟩ := fields_of_row 0x5 0 0 0 0 0 0xFF0000
      (by decide) (by decide) h
    exact ⟨.fillRect f.a0 f.a1 f.a2 f.a3 f.c565, reqWord_eq_pack hrsv hop hcfmt rfl rfl rfl rfl
      (hcolour hcolor), rfl⟩
  · obtain ⟨hop, hcfmt, hrsv, -, -, -, ha3, hcolor⟩ := fields_of_row 0x6 0 0 0 0 (.allOnes 16) 0xFF0000
      (by decide) (by decide) h
    exact ⟨.drawCircle565 f.a0 f.a1 f.a2 f.c565, reqWord_eq_pack hrsv hop hcfmt rfl rfl rfl (hfull ha3)
      (hcolour hcolor), rfl⟩
  · obtain ⟨hop, hcfmt, hrsv, -, -, -, ha3, -⟩ := fields_of_row 0x6 1 0 0 0 (.allOnes 16) 0
      (by decide) (by decide) h
    exact ⟨.drawCircle888 f.a0 f.a1 f.a2 f.color, reqWord_eq_pack hrsv hop hcfmt rfl rfl rfl (hfull ha3)
      rfl, rfl⟩
  · obtain ⟨hop, hcfmt, hrsv, -, -, -, -, hcolor⟩ := fields_of_row 0x7 0 0 0 0 0 (.allOnes 24)
      (by decide) (by decide) h
    exact ⟨.flush f.a0 f.a1 f.a2 f.a3, reqWord_eq_pack hrsv hop hcfmt rfl rfl rfl rfl
      (hfull hcolor), rfl⟩
  · obtain ⟨hop, hcfmt, hrsv, ha0, ha1, ha2, ha3, hcolor⟩ := fields_of_row 0x8 0 (.allOnes 16)
      (.allOnes 16) (.allOnes 16) (.allOnes 16) (.allOnes 24) (by decide) (by decide) h
    exact ⟨.clearScreen, reqWord_eq_pack hrsv hop hcfmt (hfull ha0) (hfull ha1) (hfull ha2) (hfull ha3)
      (hfull hcolor), rfl⟩
  · obtain ⟨hop, hcfmt, hrsv, ha0, ha1, ha2, ha3, hcolor⟩ := fields_of_row 0x9 0 (.allOnes 16)
      (.allOnes 16) (.allOnes 16) (.allOnes 16) 0xFF0000 (by decide) (by decide) h
    exact ⟨.fillScreen f.c565, reqWord_eq_pack hrsv hop hcfmt (hfull ha0) (hfull ha1) (hfull ha2)
      (hfull ha3) (hcolour hcolor), rfl⟩

/-- A row selects a word exactly if the word decodes to an operation of the row (R103). -/
theorem row_iff_decodes {w : BitVec 96} {r : TableRow} (hr : r ∈ requestRows) :
    w &&& r.mask = r.pat ↔ ∃ i, decodeRequest w = .ok i ∧ i.mnemonic = r.mnemonic := by
  constructor
  · intro h
    rw [← pack_unpack w] at h
    obtain ⟨i, henc, hname⟩ := encode_of_row Cfg.default hr h
    rw [pack_unpack] at henc
    exact ⟨i, decodeRequest_of_encode henc, hname⟩
  · rintro ⟨i, hdec, hname⟩
    obtain ⟨q, hq, hqname, hmatch⟩ := row_of_encode (encode_of_decodeRequest Cfg.default hdec)
    obtain rfl := row_ext_mnemonic hq hr (hqname.trans hname)
    exact hmatch

theorem rows_disjoint {w : BitVec 96} {r q : TableRow} (hr : r ∈ requestRows) (hq : q ∈ requestRows)
    (hwr : w &&& r.mask = r.pat) (hwq : w &&& q.mask = q.pat) : r = q := by
  obtain ⟨i, hi, hiname⟩ := (row_iff_decodes hr).1 hwr
  obtain ⟨j, hj, hjname⟩ := (row_iff_decodes hq).1 hwq
  rw [hi] at hj
  cases hj
  exact row_ext_mnemonic hr hq (hiname.symm.trans hjname)

/-- The decoder refuses exactly the words that no row selects (R104). -/
theorem no_row_iff_refused (w : BitVec 96) :
    (∀ r ∈ requestRows, w &&& r.mask ≠ r.pat) ↔ ∃ e, decodeRequest w = .error e := by
  cases hdec : decodeRequest w with
  | error e =>
    refine iff_of_true (fun r hr h => ?_) ⟨e, rfl⟩
    obtain ⟨i, hi, -⟩ := (row_iff_decodes hr).1 h
    cases hdec.symm.trans hi
  | ok i =>
    refine iff_of_false (fun hno => ?_) (fun ⟨e, he⟩ => by cases he)
    obtain ⟨r, hr, -, hmatch⟩ := row_of_encode (encode_of_decodeRequest Cfg.default hdec)
    exact hno r hr hmatch

/-- Settles O3, one lemma a clause. -/
theorem rowSelectedByMatchAndMask : Obligations.RowSelectedByMatchAndMask :=
  ⟨fun _ _ => row_iff_decodes, fun _ _ _ => rows_disjoint, no_row_iff_refused⟩

end Sys2Proof
end

section
/-! Single command frames on the panel: the commands without parameters (30 R90, 41 R132, 42 R147), the
memory-access-control frame (44 R178), and an opcode outside the thirteen (30 R95). -/

namespace Sys2Proof.Machine

/-! ## Commands without parameters -/

theorem opcode_beq_ramwr {cfg : Cfg} (hwf : cfg.opcodes.Nodup) {c : WireCmd} (hc : c ≠ .ramwr) :
    (cfg.opcode c == cfg.opcRamwr) = false := by
  rw [beq_eq_false_iff_ne]
  exact fun h => hc (opcode_injective (d := .ramwr) hwf h)

theorem sendCommand_completes {s : State} (hw : s.busWidth = .w8) (hok : s.busOk s.xfer = true)
    (op : Byte) :
    procedure (sendCommandActs s.cfg op) s =
      .next (afterTransfer s.cfg.dcCmdLevel (.bytes [op]) s) := by
  rw [procedure, sendCommandActs, runActs_transfer hw hok]

theorem sendData8_completes {s : State} (hw : s.busWidth = .w8) (hok : s.busOk s.xfer = true)
    (l : List Byte) :
    procedure (sendData8Acts s.cfg l) s = .next (afterTransfer s.cfg.dcDataLevel (.bytes l) s) := by
  rw [procedure, sendData8Acts, runActs_transfer hw hok]

/-- A frame that is a command byte alone sends its two events, and the panel receives the byte. -/
theorem sendFrame_command {s : State} (hw : s.busWidth = .w8) (hok : s.busOk s.xfer = true)
    (op : Byte) {p : Panel} (hp : s.panel.commandByte s.cfg (s.trace.length + 1) op = p) :
    ∃ t, sendFrame op [] s = .next t ∧ s.sent t (cmdEvents s.cfg op) s.cfg.dcCmdLevel ∧
      t.resp = s.resp ∧ t.panel = p := by
  refine ⟨afterTransfer s.cfg.dcCmdLevel (.bytes [op]) s, ?_, afterTransfer_sent _ _ s,
    afterTransfer_resp _ _ s, (sendCommand_panel op s).trans hp⟩
  rw [sendFrame, frameActs, if_pos rfl, List.append_nil, sendCommand_completes hw hok]

/-- Settles O17: each frame is a command byte alone, with its own effect at the panel. -/
theorem plainCommandsComplete : Obligations.PlainCommandsComplete := by
  intro s hwf hw hok
  have hlisted := command?_opcode s.cfg hwf.nodup
  have hslpout : s.cfg.command? s.cfg.opcSlpout = some .slpout := hlisted .slpout
  have hdispoff : s.cfg.command? s.cfg.opcDispoff = some .dispoff := hlisted .dispoff
  have hdispon : s.cfg.command? s.cfg.opcDispon = some .dispon := hlisted .dispon
  have hramwr : s.cfg.command? s.cfg.opcRamwr = some .ramwr := hlisted .ramwr
  have hdisarm {c : WireCmd} (hc : c ≠ .ramwr) := opcode_beq_ramwr hwf.nodup hc
  have hslpout' : (s.cfg.opcSlpout == s.cfg.opcRamwr) = false := hdisarm (c := .slpout) (by simp)
  have hdispoff' : (s.cfg.opcDispoff == s.cfg.opcRamwr) = false := hdisarm (c := .dispoff) (by simp)
  have hdispon' : (s.cfg.opcDispon == s.cfg.opcRamwr) = false := hdisarm (c := .dispon) (by simp)
  refine ⟨sendFrame_command hw hok.head _ ?_, sendFrame_command hw hok.head _ ?_,
    sendFrame_command hw hok.head _ ?_, sendFrame_command hw hok.head _ ?_⟩
  · simp [Panel.commandByte, Panel.beginCommand, hslpout, hslpout']
  · simp [Panel.commandByte, Panel.beginCommand, hdispoff, hdispoff']
  · simp [Panel.commandByte, Panel.beginCommand, hdispon, hdispon']
  · simp [Panel.commandByte, Panel.beginCommand, Panel.setCursor, hramwr]

/-! ## Memory access control -/

/-- A panel that lists no pixel gives none a value, whether or not it is undefined. -/
theorem pixel_of_fm_nil {s : State} (h : s.panel.fm = []) (x y : Nat) : s.pixel x y = none := by
  have hfm : s.P.fm = [] := by
    unfold State.P Panel.view
    split
    · rfl
    · exact h
  rw [State.pixel, hfm]
  rfl

/-- Settles O20: the frame with its one parameter latches MADCTL, whatever the register held. -/
theorem madctlForgetsTheFrame : Obligations.MadctlForgetsTheFrame := by
  intro s b hwf hw hok
  have hb : [b] ≠ [] := List.cons_ne_nil b []
  have hpanel := afterFrame_panel hwf (c := .madctl) hb rfl
  refine ⟨_, sendFrame_completes hw hok _ hb, afterFrame_sent _ _ s, by simp [afterFrame], ?_, hpanel⟩
  exact pixel_of_fm_nil (congrArg Panel.fm hpanel)

/-! ## An opcode outside the thirteen -/

theorem commandByte_unlisted {cfg : Cfg} {b : Byte} (hb : cfg.command? b = none) (n : Nat) (p : Panel) :
    p.commandByte cfg n b = { p.beginCommand cfg b with undef := true } := by
  simp [Panel.commandByte, hb]

theorem dataByte_unlisted {cfg : Cfg} {p : Panel} {b : Byte} (w h : Nat) (ha : p.armed = false)
    (hcmd : p.cmd = some b) (hb : cfg.command? b = none) (x : Byte) :
    p.dataByte cfg w h x =
      { p with par := p.par ++ [x], other := otherPut p.other b (p.par ++ [x]) } := by
  simp [Panel.dataByte, Panel.parameterByte, ha, hcmd, hb]

/-- The parameters of an unlisted opcode are stored under it as they come (R95). -/
theorem foldl_dataByte_unlisted {cfg : Cfg} {p : Panel} {b : Byte} (w h : Nat) (ha : p.armed = false)
    (hcmd : p.cmd = some b) (hb : cfg.command? b = none) {l : List Byte} (hl : l ≠ []) :
    otherGet (l.foldl (Panel.dataByte cfg w h) p).other b = some (p.par ++ l) := by
  induction l generalizing p with
  | nil => exact absurd rfl hl
  | cons x l ih =>
    rw [List.foldl_cons, dataByte_unlisted w h ha hcmd hb]
    by_cases hnil : l = []
    · subst hnil
      exact other_get_put_same _ _ _
    · refine (ih ?_ ?_ hnil).trans ?_
      · exact ha
      · exact hcmd
      · simp

/-- Settles O23: the command byte sets `P.undef`, which data keeps. -/
theorem unlistedOpcodeUndefines : Obligations.UnlistedOpcodeUndefines := by
  intro s b l hwf hw hok hb hl
  obtain ⟨t, ht, hcfg, hwidth, hok', hpanel⟩ : ∃ t, exec (.sendCommand b) s = .next t ∧
      t.cfg = s.cfg ∧ t.busWidth = .w8 ∧ t.writesOk 1 ∧
      t.panel = s.panel.commandByte s.cfg (s.trace.length + 1) b :=
    ⟨_, sendCommand_completes hw hok.head b, afterTransfer_cfg _ _ s,
      (afterTransfer_busWidth _ _ s).trans hw, hok.afterTransfer _ _, sendCommand_panel b s⟩
  have harmed : t.panel.armed = false := by
    rw [hpanel]
    exact commandByte_armed hwf.nodup _ _ (by simp [hb])
  rw [commandByte_unlisted hb] at hpanel
  have hcmd : t.panel.cmd = some b := congrArg Panel.cmd hpanel
  have hundef : t.panel.undef = true := congrArg Panel.undef hpanel
  have hpar : t.panel.par = [] := congrArg Panel.par hpanel
  have hdata := sendData8_panel (s := t) (hcfg ▸ hwf) l
  refine ⟨t, _, ht, hcmd, harmed, hundef, sendData8_completes hwidth hok'.head l, ?_, ?_⟩
  · rw [hdata, foldl_dataByte_unlisted _ _ harmed hcmd (hcfg ▸ hb) hl, hpar, List.nil_append]
  · rw [hdata]
    exact foldl_keeps (fun p => p.undef = true) _ (dataByte_undef _ _ _) l _ hundef

end Sys2Proof.Machine
end

section
/-! Words of the table, and the refusal of a reserved one (30 R102, R104, 60 R228). -/

namespace Sys2Proof.Machine

/-- Settles O4, each word by evaluation. -/
theorem publishedWordsDecode : Obligations.PublishedWordsDecode := by
  unfold Obligations.PublishedWordsDecode
  decide

/-- Settles O6: a word that no row selects is refused by the decoder, and the step answers it. -/
theorem reservedWordAnswersReserved : Obligations.ReservedWordAnswersReserved := by
  intro s w rest hb hport hno
  obtain ⟨e, he⟩ := (no_row_iff_refused w).1 hno
  have hrefused : decode s.cfg (.request w) = .error e := he
  rw [step_of_present s _ rest hb hport, hrefused]
  rfl

end Sys2Proof.Machine
end

section
/-! The colour encoder (40 R120, R122): its result by arithmetic, and its inverse on the fields of a
Color888. -/

namespace Sys2Proof

theorem toNat_append_eq_mul_add {m n : Nat} (x : BitVec m) (y : BitVec n) :
    (x ++ y).toNat = 2 ^ n * x.toNat + y.toNat := by
  rw [BitVec.toNat_append, ← Nat.shiftLeft_add_eq_or_of_lt y.isLt, Nat.shiftLeft_eq, Nat.mul_comm]

/-- The request word of TO_COLOR565 is its fixed fields, then the colour (R102, R120). -/
theorem reqWord_toColor565 (c : Color888) :
    reqWord 0x3 1 0 0 0 0 c = 0x380000000000000000#72 ++ c := by
  have hfixed : 0x3#4 ++ 1#1 ++ 0#3 ++ 0#16 ++ 0#16 ++ 0#16 ++ 0#16 = 0x380000000000000000#72 := by
    decide
  exact congrArg (· ++ c) hfixed

end Sys2Proof

namespace Sys2Proof.Machine

theorem toNat_toColor565 (c : Color888) :
    (toColor565 c).toNat =
      2048 * (c.toNat / 524288) + 32 * (c.toNat / 1024 % 64) + c.toNat / 8 % 32 := by
  have hred : c.toNat / 524288 % 32 = c.toNat / 524288 := Nat.mod_eq_of_lt (by omega)
  simp only [toColor565, toNat_append_eq_mul_add, BitVec.extractLsb'_toNat,
    Nat.shiftRight_eq_div_pow, Nat.reducePow, hred]
  omega

/-- The encoder keeps the upper bits of each component, whatever the bits below them. -/
theorem toColor565_append (r b : BitVec 5) (g : BitVec 6) (rlow blow : BitVec 3) (glow : BitVec 2) :
    toColor565 (r ++ rlow ++ g ++ glow ++ b ++ blow) = r ++ g ++ b := by
  have hblue : (r ++ rlow ++ g ++ glow ++ b ++ blow).extractLsb' 3 5 = b := by
    rw [BitVec.extractLsb'_append_eq_of_le (by decide)]
    exact BitVec.extractLsb'_append_eq_right
  have hgreen : (r ++ rlow ++ g ++ glow ++ b ++ blow).extractLsb' 10 6 = g := by
    iterate 3 rw [BitVec.extractLsb'_append_eq_of_le (by decide)]
    exact BitVec.extractLsb'_append_eq_right
  have hred : (r ++ rlow ++ g ++ glow ++ b ++ blow).extractLsb' 19 5 = r := by
    iterate 5 rw [BitVec.extractLsb'_append_eq_of_le (by decide)]
    exact BitVec.extractLsb'_eq_self
  rw [toColor565, hred, hgreen, hblue]

/-- A Color565 is its three components (R120). -/
theorem append_components (k : Color565) :
    k.extractLsb' 11 5 ++ k.extractLsb' 5 6 ++ k.extractLsb' 0 5 = k := by
  rw [BitVec.extractLsb'_append_extractLsb'_eq_extractLsb' (show 11 = 5 + 6 from rfl),
    BitVec.extractLsb'_append_extractLsb'_eq_extractLsb' (show 5 = 0 + 5 from rfl)]
  exact BitVec.extractLsb'_eq_self

/-- Settles O8: the operation answers the conversion, which the rows with a tagged Color888 apply. -/
theorem toColor565Result : Obligations.ToColor565Result := by
  intro c s
  have hencode : encode s.cfg (.toColor565 c) = .request (0x380000000000000000#72 ++ c) :=
    congrArg Presented.request (reqWord_toColor565 c)
  refine ⟨decodeRequest_of_encode hencode, ?_, toColor565 c, toNat_toColor565 c, fun _ _ => rfl,
    fun _ _ _ => rfl⟩
  rw [← toNat_toColor565, BitVec.ofNat_toNat, BitVec.setWidth_eq]
  rfl

/-- Settles O9: the zeros lie in the bits the encoder drops. -/
theorem toColor565Onto : Obligations.ToColor565Onto := fun k =>
  (toColor565_append ..).trans (append_components k)

end Sys2Proof.Machine
end

section
/-! The transport's calls one by one (41 R125 to R130): one batch under its mode-select level, what the
panel makes of the data (R134 to R136), a bare batch, and the width event. -/

namespace Sys2Proof.Machine

/-! ## One command byte, the pixel format, the width event -/

/-- Settles O10: one successful transfer at the command level. -/
theorem sendCommandCompletes : Obligations.SendCommandCompletes := fun s b hw hok =>
  ⟨_, sendCommand_completes hw hok.head b, afterTransfer_sent _ _ s, afterTransfer_resp _ _ s,
    sendCommand_panel b s⟩

/-- Settles O21: the frame with its parameters latches PIXSET. -/
theorem pixsetSetsTheFormat : Obligations.PixsetSetsTheFormat := by
  intro s l hwf hw hok hlen
  have hl : l ≠ [] := List.length_pos_iff.1 (hlen ▸ List.length_pos_iff.2 hwf.pixset)
  exact ⟨_, sendFrame_completes hw hok _ hl, afterFrame_sent _ _ s, by simp [afterFrame],
    afterFrame_panel hwf (c := .pixset) hl hlen⟩

/-- Settles O14: the one action ends on every state, and the panel receives nothing of a width event. -/
theorem setBusWidthCompletes : Obligations.SetBusWidthCompletes := fun _ _ => rfl

/-! ## A pixel -/

theorem pixel_of_defined {s : State} (hu : s.panel.undef = false) (x y : Nat) :
    s.pixel x y = Memory.read s.panel.fm (pixelKey x y) := by
  simp [State.pixel, State.P, Panel.view, hu]

theorem advance_half (p : Panel) : p.advance.half = p.half := by
  unfold Panel.advance
  split
  · rfl
  · split <;> rfl

/-- A pixel on a panel that takes pixels is written at the cursor, and nowhere else (R148, R149). -/
theorem writePixel_written {s t : State} {half : Option Byte} {c : Color565} (hs : s.panelTakesPixels)
    (ht : t.panel = Panel.writePixel s.cfg s.width s.height { s.panel with half := half } c) :
    t.panel.half = half ∧ s.pixelWritten t c := by
  obtain ⟨-, hu, hw⟩ := hs
  have hwritten : t.panel = Panel.advance { s.panel with
      half := half
      fm := Memory.write s.panel.fm (pixelKey s.panel.cx.val.toNat s.panel.cy.val.toNat) c } := by
    rw [ht, Panel.writePixel, if_neg (by simpa using hu)]
    exact if_pos hw
  have hut : t.panel.undef = false := by rw [hwritten, advance_undef, hu]
  have hfm : t.panel.fm =
      Memory.write s.panel.fm (pixelKey s.panel.cx.val.toNat s.panel.cy.val.toNat) c := by
    rw [hwritten, advance_fm]
  refine ⟨by rw [hwritten, advance_half], hut, ?_, fun x y hx hne => ?_⟩
  · rw [pixel_of_defined hut, hfm, memory_read_write_same]
  · rw [pixel_of_defined hut, pixel_of_defined hu, hfm]
    exact memory_read_write_other _ _ _ _ fun hkey =>
      hne (pixelKey_inj _ _ _ _ hx s.panel.cx.val.isLt hkey)

/-- The pixel of two bytes, `256*h + b` (R68, R135). -/
theorem ofBe16_eq_ofNat (h b : Byte) : ofBe16 h b = BitVec.ofNat 16 (256 * h.toNat + b.toNat) := by
  apply BitVec.eq_of_toNat_eq
  rw [ofBe16, toNat_append_eq_mul_add, BitVec.toNat_ofNat]
  omega

theorem dataByte_first {cfg : Cfg} {p : Panel} (w h : Nat) (ha : p.armed = true) (hh : p.half = none)
    (b : Byte) : p.dataByte cfg w h b = { p with half := some b } := by
  simp [Panel.dataByte, ha, hh]

theorem dataByte_second {cfg : Cfg} {p : Panel} (w h : Nat) {hi : Byte} (ha : p.armed = true)
    (hh : p.half = some hi) (b : Byte) :
    p.dataByte cfg w h b = Panel.writePixel cfg w h { p with half := none } (ofBe16 hi b) := by
  simp [Panel.dataByte, ha, hh]

theorem dataWord_pixel {cfg : Cfg} {p : Panel} (w h : Nat) (ha : p.armed = true) (hh : p.half = none)
    (c : Word16) : p.dataWord cfg w h c = p.writePixel cfg w h c := by
  simp [Panel.dataWord, ha, hh]

/-! ## Units that undefine the panel -/

theorem foldl_dataByte_undef {cfg : Cfg} {p : Panel} (w h : Nat) (l : List Byte) (hp : p.undef = true) :
    (l.foldl (Panel.dataByte cfg w h) p).undef = true :=
  foldl_keeps (fun q => q.undef = true) _ (dataByte_undef cfg w h) l p hp

/-- A parameter byte joins the parameter list, whatever else it does, and leaves the command (R134). -/
theorem parameterByte_latch (cfg : Cfg) (p : Panel) (b : Byte) :
    (p.parameterByte cfg b).cmd = p.cmd ∧ (p.parameterByte cfg b).par = p.par ++ [b] := by
  simp only [Panel.parameterByte]
  split
  · exact ⟨rfl, rfl⟩
  · split
    · exact ⟨rfl, rfl⟩
    · split
      · exact ⟨rfl, rfl⟩
      · split
        · exact ⟨latch_cmd _ _ _ _, latch_par _ _ _ _⟩
        · exact ⟨rfl, rfl⟩

/-- A parameter beyond the expected count undefines the panel (R134). -/
theorem parameterByte_tooMany {cfg : Cfg} {p : Panel} {c : WireCmd} (hc : p.cmd.bind cfg.command? = some c)
    (hlen : cfg.expected c < p.par.length + 1) (b : Byte) : (p.parameterByte cfg b).undef = true := by
  obtain ⟨op, hop, hlisted⟩ := Option.bind_eq_some_iff.1 hc
  simp [Panel.parameterByte, hop, hlisted, hlen]

/-- Data at a disarmed panel undefines it if there is no command, or if it brings the parameter list
beyond the expected count. -/
theorem foldl_dataByte_unexpected {cfg : Cfg} {p : Panel} (w h : Nat) {l : List Byte}
    (ha : p.armed = false) (hl : l ≠ [])
    (hcmd : p.cmd = none ∨ ∃ c, p.cmd.bind cfg.command? = some c ∧
      cfg.expected c < p.par.length + l.length) :
    (l.foldl (Panel.dataByte cfg w h) p).undef = true := by
  induction l generalizing p with
  | nil => exact absurd rfl hl
  | cons x l ih =>
    have hx : p.dataByte cfg w h x = p.parameterByte cfg x := by simp [Panel.dataByte, ha]
    rw [List.foldl_cons, hx]
    obtain ⟨hcmd', hpar'⟩ := parameterByte_latch cfg p x
    rcases hcmd with hnone | ⟨c, hc, hlen⟩
    · exact foldl_dataByte_undef w h l (by simp [Panel.parameterByte, hnone])
    · by_cases hmany : cfg.expected c < p.par.length + 1
      · exact foldl_dataByte_undef w h l (parameterByte_tooMany hc hmany x)
      · rw [List.length_cons] at hlen
        refine ih ((parameterByte_armed cfg p x).trans ha) ?_ (.inr ⟨c, by rw [hcmd', hc], ?_⟩)
        · rintro rfl
          exact hmany hlen
        · rw [hpar', List.length_append, List.length_singleton]
          omega

/-- A word that is no pixel undefines the panel (R135, R136). -/
theorem dataWord_unexpected {cfg : Cfg} {p : Panel} (w h : Nat) (hp : p.armed = false ∨ p.half ≠ none)
    (c : Word16) : (p.dataWord cfg w h c).undef = true := by
  rcases hp with ha | hh
  · simp [Panel.dataWord, ha]
  · obtain ⟨hi, hhi⟩ := Option.ne_none_iff_exists'.1 hh
    cases ha : p.armed <;> simp [Panel.dataWord, ha, hhi]

/-! ## Data -/

/-- Settles O11: one successful transfer at the data level, received byte by byte. -/
theorem sendData8Completes : Obligations.SendData8Completes := by
  intro s l hwf hw hok
  have hpanel := sendData8_panel hwf l
  refine ⟨_, sendData8_completes hw hok.head l, afterTransfer_sent _ _ s, afterTransfer_resp _ _ s,
    hpanel, ?_, ?_, ?_⟩
  · rintro ha hh b rfl
    exact hpanel.trans (dataByte_first _ _ ha hh b)
  · intro hs h b hl
    rw [← ofBe16_eq_ofNat]
    obtain ⟨ha, -⟩ := id hs
    refine writePixel_written hs (hpanel.trans ?_)
    rcases hl with ⟨hh, rfl⟩ | ⟨hh, rfl⟩
    · rw [List.foldl_cons, dataByte_first _ _ ha hh]
      exact dataByte_second (p := { s.panel with half := some h }) _ _ ha rfl b
    · exact dataByte_second _ _ ha hh b
  · intro ha hl hcmd
    rw [hpanel]
    exact foldl_dataByte_unexpected _ _ ha hl hcmd

theorem sendData16_completes {s : State} (hw : s.busWidth = .w16) (hok : s.busOk s.xfer = true)
    (l : List Word16) :
    procedure (sendData16Acts s.cfg l) s = .next (afterTransfer s.cfg.dcDataLevel (.words l) s) := by
  rw [procedure, sendData16Acts, runActs_transfer hw hok]

/-- Settles O12: the same at width 16, received word by word. -/
theorem sendData16Completes : Obligations.SendData16Completes := by
  intro s l hwf hw hok
  have hpanel := sendData16_panel hwf l
  refine ⟨_, sendData16_completes hw hok.head l, afterTransfer_sent _ _ s, afterTransfer_resp _ _ s,
    hpanel, ?_, ?_⟩
  · rintro hs hh w rfl
    obtain ⟨ha, -⟩ := id hs
    exact (writePixel_written (half := s.panel.half) hs
      (hpanel.trans (dataWord_pixel _ _ ha hh w))).2
  · intro hp hl
    rw [hpanel]
    cases l with
    | nil => exact absurd rfl hl
    | cons c l =>
      exact foldl_keeps (fun p => p.undef = true) _ (dataWord_undef _ _ _) l _
        (dataWord_unexpected _ _ hp c)

/-! ## A bare batch -/

theorem runActs_write (b : Batch) (s : State) : runActs [.write b] s = busWriteRun b s := by
  simp only [runActs_cons, runAct, runActs_nil]
  cases busWriteRun b s <;> rfl

/-- Settles O15: the two answers of the oracle. -/
theorem busWriteCompletes : Obligations.BusWriteCompletes := by
  intro s b hw
  have hexec : exec (.busWrite b) s = procedure [.write b] s := rfl
  rw [hexec, procedure, runActs_write, busWriteRun, if_pos hw]
  refine ⟨fun hok => ?_, fun hno => ?_⟩
  · rw [if_pos hok]
    refine ⟨_, rfl, ?_, emit_panel _ _⟩
    cases b <;> rfl
  · rw [if_neg (by simp [hno])]
    cases hwidth : s.busWidth <;>
      simp [takeBusFailure, restoreWidth, answer, setWidth, emit, State.drive, Panel.receive,
        Panel.undefine]

end Sys2Proof.Machine
end

section
/-! Bus failures (41 R130, 60 R230 to R232): where a run of actions fails, the same run under an oracle
that refuses nothing, and what this makes of an instruction that meets a refused write. -/

namespace Sys2Proof.Machine

/-! ## A run that comes to its end -/

theorem busOk_congr {s t : State} (h : t.busFails = s.busFails) (k : Nat) : t.busOk k = s.busOk k := by
  rw [State.busOk, State.busOk, h]

/-- From `s` to `t` the events `es` were emitted, the bus writes among them counted and none of them
refused, and the transfer width is the one they leave. -/
def State.Wrote (s : State) (es : List Event) (t : State) : Prop :=
  t.trace = s.trace ++ es ∧ t.xfer = s.xfer + busWrites es ∧
  t.busWidth = widthAfter s.busWidth es ∧ t.busFails = s.busFails ∧
  ∀ k, s.xfer ≤ k → k < t.xfer → s.busOk k = true

theorem State.Wrote.trans {s t u : State} {es es' : List Event} (h1 : s.Wrote es t)
    (h2 : t.Wrote es' u) : s.Wrote (es ++ es') u := by
  obtain ⟨htrace, hxfer, hwidth, hfails, hok⟩ := h1
  obtain ⟨htrace', hxfer', hwidth', hfails', hok'⟩ := h2
  refine ⟨by rw [htrace', htrace, List.append_assoc],
    by rw [hxfer', hxfer, busWrites_append, Nat.add_assoc],
    by rw [hwidth', hwidth, widthAfter_append], hfails'.trans hfails, fun k hlo hhi => ?_⟩
  by_cases hk : k < t.xfer
  · exact hok k hlo hk
  · exact (busOk_congr hfails k).symm.trans (hok' k (Nat.le_of_not_lt hk) hhi)

/-- What writes nothing: no bus write is counted. -/
theorem wrote_of_uncounted {s t : State} {es : List Event} (htrace : t.trace = s.trace ++ es)
    (hnone : busWrites es = 0) (hxfer : t.xfer = s.xfer) (hwidth : t.busWidth = widthAfter s.busWidth es)
    (hfails : t.busFails = s.busFails) : s.Wrote es t :=
  ⟨htrace, by rw [hxfer, hnone, Nat.add_zero], hwidth, hfails, fun k hlo hhi => by omega⟩

theorem emit_batch_wrote {s : State} (b : Batch) (hok : s.busOk s.xfer = true) :
    s.Wrote [batchEvent b] (emit (batchEvent b) { s with xfer := s.xfer + 1 }) := by
  refine ⟨emit_trace _ _, ?_, ?_, emit_busFails _ _, fun k hlo hhi => ?_⟩
  · cases b <;> rfl
  · cases b <;> rfl
  · rw [emit_xfer] at hhi
    rwa [Nat.le_antisymm (Nat.le_of_lt_succ hhi) hlo]

theorem runAct_done_wrote {a : Act} {s t : State} (h : runAct a s = .done t) : ∃ es, s.Wrote es t := by
  cases a with
  | write b =>
    rw [runAct] at h
    rcases busWriteRun_cases b s with ⟨_, hok, e⟩ | ⟨_, _, e⟩ | ⟨_, e⟩ <;> rw [e] at h <;> cases h
    exact ⟨_, emit_batch_wrote b hok⟩
  | pin line level =>
    cases h
    exact ⟨_, wrote_of_uncounted (emit_trace _ _) rfl (by simp) (by simp [widthAfter]) (by simp)⟩
  | width w =>
    cases h
    exact ⟨_, wrote_of_uncounted (setWidth_trace _ _) rfl rfl rfl rfl⟩
  | delay ms =>
    cases h
    exact ⟨_, wrote_of_uncounted (emit_trace _ _) rfl rfl rfl rfl⟩
  | screen | phase =>
    cases h
    exact ⟨[], wrote_of_uncounted (by simp) rfl rfl rfl rfl⟩

theorem runActs_done_wrote {l : List Act} {s t : State} (h : runActs l s = .done t) :
    ∃ es, s.Wrote es t := by
  induction l generalizing s with
  | nil =>
    cases h
    exact ⟨[], wrote_of_uncounted (by simp) rfl rfl rfl rfl⟩
  | cons a l ih =>
    obtain ⟨v, ha, hl⟩ := runActs_append_done_iff (l1 := [a]).1 h
    rw [runActs_cons] at ha
    cases hr : runAct a s <;> rw [hr] at ha <;> cases ha
    obtain ⟨es, hes⟩ := runAct_done_wrote hr
    obtain ⟨es', hes'⟩ := ih hl
    exact ⟨es ++ es', hes.trans hes'⟩

/-! ## Where a run fails -/

/-- A run that fails has come to the end of the actions before one batch, which the oracle refuses
(R130). -/
theorem runActs_busFailure_split {l : List Act} {s u : State} (h : runActs l s = .busFailure u) :
    ∃ l1 b l2 v, l = l1 ++ .write b :: l2 ∧ runActs l1 s = .done v ∧ v.busWidth = batchWidth b ∧
      v.busOk v.xfer = false ∧ u = { v with xfer := v.xfer + 1 } := by
  induction l generalizing s with
  | nil => cases h
  | cons a l ih =>
    rw [runActs_cons] at h
    cases hr : runAct a s with
    | done v =>
      rw [hr] at h
      obtain ⟨l1, b, l2, w, rfl, hdone, hfail⟩ := ih h
      refine ⟨a :: l1, b, l2, w, rfl, ?_, hfail⟩
      rw [runActs_cons, hr]
      exact hdone
    | busFailure v =>
      rw [hr] at h
      cases h
      obtain ⟨b, rfl, hfail⟩ := runAct_busFailure a s u hr
      exact ⟨[], b, l, s, rfl, rfl, hfail⟩
    | refused r => simp [hr] at h

/-! ## The same run with no failing write -/

theorem emit_oracle (e : Event) (s : State) (fails : List Nat) :
    emit e { s with busFails := fails } = { emit e s with busFails := fails } := by
  rcases e with ⟨line, _⟩ | _ | _ | _ | _
  · cases line <;> rfl
  all_goals rfl

theorem runAct_done_unfailing {a : Act} {s t : State} (h : runAct a s = .done t) :
    runAct a { s with busFails := [] } = .done { t with busFails := [] } := by
  cases a with
  | write b =>
    rw [runAct] at h
    rcases busWriteRun_cases b s with ⟨hw, _, e⟩ | ⟨_, _, e⟩ | ⟨_, e⟩ <;> rw [e] at h <;> cases h
    rw [← emit_oracle]
    exact if_pos hw
  | pin line level =>
    cases h
    rw [← emit_oracle]
    rfl
  | width | delay | screen | phase =>
    cases h
    rfl

theorem runActs_done_unfailing {l : List Act} {s t : State} (h : runActs l s = .done t) :
    runActs l { s with busFails := [] } = .done { t with busFails := [] } := by
  induction l generalizing s with
  | nil =>
    cases h
    rfl
  | cons a l ih =>
    rw [runActs_cons] at h
    cases hr : runAct a s <;> simp only [hr, reduceCtorEq] at h
    rw [runActs_cons, runAct_done_unfailing hr]
    exact ih h

/-- An oracle that refuses nothing makes no run fail (R229). -/
theorem runActs_unfailing {l : List Act} {s u : State} :
    runActs l { s with busFails := [] } ≠ .busFailure u := by
  intro h
  obtain ⟨l1, b, l2, v, -, hdone, -, hno, -⟩ := runActs_busFailure_split h
  obtain ⟨es, -, -, -, hfails, -⟩ := runActs_done_wrote hdone
  simp [State.busOk, hfails] at hno

/-- With no failing write the run goes on with the batch at which it failed. -/
theorem runActs_past_failure {l1 l2 : List Act} {b : Batch} {s v t : State}
    (hdone : runActs l1 s = .done v) (hw : v.busWidth = batchWidth b)
    (h : runActs (l1 ++ .write b :: l2) { s with busFails := [] } = .done t) :
    ∃ rest, t.trace = v.trace ++ batchEvent b :: rest := by
  have hsent : runAct (.write b) { v with busFails := [] } =
      .done (emit (batchEvent b) { v with busFails := [], xfer := v.xfer + 1 }) := if_pos hw
  rw [runActs_append_done (runActs_done_unfailing hdone), runActs_cons, hsent] at h
  obtain ⟨⟨rest, hrest⟩, -⟩ := runActs_trace_xfer l2 _ t (.inl h)
  exact ⟨rest, by rw [hrest, emit_trace, List.append_assoc, List.singleton_append]⟩

/-! ## Instructions under every oracle -/

/-- How an instruction ends that has run its actions: with the answer `st` if it gives one, or with the
effects of the bus failure. -/
def conclude (st : Option Status) : Run → Host.Outcome State Fault Refusal
  | .done t => .next (st.elim t fun st => answer st 0 t)
  | .busFailure t => .next (takeBusFailure t)
  | .refused r => .refused r

/-- The answer touches neither the trace nor the count nor the phase. -/
theorem conclude_done {st : Option Status} {v t : State} (h : conclude st (.done v) = .next t) :
    t.trace = v.trace ∧ t.xfer = v.xfer ∧ t.phase = v.phase := by
  cases st <;> cases h <;> exact ⟨rfl, rfl, rfl⟩

theorem procedure_eq_conclude (acts : List Act) (s : State) :
    procedure acts s = conclude none (runActs acts s) := by
  unfold procedure
  cases runActs acts s <;> rfl

theorem runAndAnswer_eq_conclude (acts : List Act) (st : Status) (s : State) :
    runAndAnswer acts st s = conclude (some st) (runActs acts s) := by
  unfold runAndAnswer
  cases runActs acts s <;> rfl

/-- Whatever the oracle, `i` run on `s` runs its program from `s0` and ends with the answer `st`. -/
def Runs (i : Instr) (s s0 : State) (st : Option Status) : Prop :=
  ∀ fails, exec i { s with busFails := fails } =
    conclude st (runActs (program s i) { s0 with busFails := fails })

/-- `i` run on `s` answers with no action run: no write is counted, and the phase is kept. -/
def Still (i : Instr) (s : State) : Prop :=
  ∃ t, exec i s = .next t ∧ t.xfer = s.xfer ∧ t.phase = s.phase

theorem procedure_runs {i : Instr} {s : State} (hi : ∀ o, i ≠ .construct o)
    (hexec : ∀ s, exec i s = procedure (program s i) s)
    (hprogram : ∀ fails, program { s with busFails := fails } i = program s i) :
    ∃ s0 st, Entry i s s0 ∧ Runs i s s0 st :=
  ⟨s, none, .unlocked hi, fun fails => by rw [hexec, procedure_eq_conclude, hprogram]⟩

theorem operation_still_or_runs {i : Instr} {s : State} {plan : State → List Act × Status}
    (hi : ∀ o, i ≠ .construct o)
    (hexec : ∀ s, exec i s = operation plan s)
    (hplan : ∀ fails, (plan { s with busFails := fails }).1 = program s i ∧
      (plan { s with busFails := fails }).2 = (plan s).2) :
    Still i s ∨ ∃ s0 st, Entry i s s0 ∧ Runs i s s0 st := by
  have hown := hexec s
  unfold operation at hown hexec
  by_cases hb : s.busy = true
  · rw [if_pos hb] at hown
    exact .inl ⟨_, hown, rfl, rfl⟩
  by_cases hp : s.phase = .p9
  · refine .inr ⟨_, some (plan s).2, .locked hi (by simpa using hb) hp, fun fails => ?_⟩
    obtain ⟨hacts, hstatus⟩ := hplan fails
    rw [hexec, if_neg hb, if_pos hp, runAndAnswer_eq_conclude, hacts, hstatus]
  · rw [if_neg hb, if_neg hp] at hown
    exact .inl ⟨_, hown, rfl, rfl⟩

theorem construct_still_or_runs (o : Orientation) (s : State) :
    Still (.construct o) s ∨ ∃ s0 st, Entry (.construct o) s s0 ∧ Runs (.construct o) s s0 st := by
  have hexec (s : State) : exec (.construct o) s = execConstruct o s := rfl
  unfold execConstruct at hexec
  by_cases hb : s.busy = true
  · exact .inl ⟨s, by rw [hexec, if_pos hb], rfl, rfl⟩
  by_cases hp : s.phase = .p0
  · by_cases hbus : busValid s.cfg s.ctorPort.bus = true
    · refine .inr ⟨_, some .ok, .construct o rfl (by simpa using hb) hp, fun fails => ?_⟩
      rw [hexec, if_neg hb, if_neg (not_not_intro hp), if_pos hbus, runAndAnswer_eq_conclude]
      rfl
    · refine .inl ⟨answer .eConfig 0 s, ?_, rfl, rfl⟩
      rw [hexec, if_neg hb, if_neg (not_not_intro hp), if_neg hbus]
  · refine .inl ⟨answer .eNotReady 0 s, ?_, rfl, rfl⟩
    rw [hexec, if_neg hb, if_pos hp]

theorem setBacklight_still (on : Bool) (s : State) : Still (.setBacklight on) s := by
  have hexec : exec (.setBacklight on) s = execSetBacklight on s := rfl
  unfold execSetBacklight at hexec
  split at hexec
  · exact ⟨_, hexec, rfl, rfl⟩
  · split at hexec <;> exact ⟨_, hexec, rfl, rfl⟩

/-- Whether an instruction runs its program is not for the oracle to say. -/
theorem exec_still_or_runs (i : Instr) (s : State) :
    Still i s ∨ ∃ s0 st, Entry i s s0 ∧ Runs i s s0 st := by
  cases i
  case construct o => exact construct_still_or_runs o s
  case setBacklight on => exact .inl (setBacklight_still on s)
  case toColor565 c => exact .inl ⟨_, rfl, rfl, rfl⟩
  case drawChar x y fg bg g =>
    exact .inr ⟨s, some (drawCharPlan s.cfg x y fg bg g).2, .unlocked (by simp),
      fun _ => runAndAnswer_eq_conclude (drawCharPlan s.cfg x y fg bg g).1 _ _⟩
  case swreset | slpout | gamset | dispoff | dispon | caset | paset | ramwr | madctl | pixset | frmctr
    | dfunctr | etmod | sendCommand | sendData8 | sendData16 | setBusWidth | busWrite | setWindow
    | orient =>
    exact .inr (procedure_runs (by simp) (fun _ => rfl) fun _ => rfl)
  all_goals
    refine operation_still_or_runs (by simp) (fun _ => rfl) ?_
    exact fun _ => ⟨rfl, rfl⟩

/-! ## The effects of a bus failure -/

/-- The lock and the construction parameters are no part of the wire. -/
theorem Entry.wire {i : Instr} {s s0 : State} (he : Entry i s s0) :
    s0.trace = s.trace ∧ s0.xfer = s.xfer ∧ s0.busWidth = s.busWidth ∧ s0.busFails = s.busFails := by
  cases he <;> exact ⟨rfl, rfl, rfl, rfl⟩

/-- In particular under the oracle of the state itself. -/
theorem Runs.own {i : Instr} {s s0 : State} {st : Option Status} (h : Runs i s s0 st)
    (he : Entry i s s0) : exec i s = conclude st (runActs (program s i) s0) := by
  obtain ⟨-, -, -, hfails⟩ := he.wire
  have hsame : { s0 with busFails := s.busFails } = s0 := by rw [← hfails]
  exact (h s.busFails).trans (by rw [hsame])

/-- A program that comes to its end does not end in FAILED unless it began there (R23). -/
theorem program_done_not_failed {i : Instr} {s s0 v : State} (he : Entry i s s0)
    (h : runActs (program s i) s0 = .done v) (hs : s.phase ≠ .failed) : v.phase ≠ .failed := by
  cases he with
  | unlocked hc | locked hc =>
    rw [program_phase hc (.inl h)]
    exact hs
  | construct o hi =>
    subst hi
    simp [initActs_phase s.cfg o _ v trivial h]

/-- An instruction that met a refused write, or went to FAILED, ran its program up to that write. -/
theorem exec_busFailure {i : Instr} {s t : State} (h : exec i s = .next t)
    (hmet : (∃ k, s.xfer ≤ k ∧ k < t.xfer ∧ s.busOk k = false) ∨
      s.phase ≠ .failed ∧ t.phase = .failed) :
    ∃ s0 st u, Entry i s s0 ∧ Runs i s s0 st ∧ runActs (program s i) s0 = .busFailure u ∧
      t = takeBusFailure u := by
  rcases exec_still_or_runs i s with ⟨t', ht', hxfer, hphase⟩ | ⟨s0, st, he, hruns⟩
  · cases ht'.symm.trans h
    rcases hmet with ⟨k, hlo, hhi, -⟩ | ⟨hs, ht⟩
    · omega
    · exact absurd (hphase.symm.trans ht) hs
  obtain ⟨-, hxfer0, -, hfails0⟩ := he.wire
  rw [hruns.own he] at h
  cases hrun : runActs (program s i) s0 with
  | done v =>
    exfalso
    obtain ⟨es, -, -, -, -, hok⟩ := runActs_done_wrote hrun
    rw [hrun] at h
    obtain ⟨-, hxfer, hphase⟩ := conclude_done h
    rcases hmet with ⟨k, hlo, hhi, hno⟩ | ⟨hs, ht⟩
    · have hyes := hok k (by omega) (by omega)
      rw [busOk_congr hfails0, hno] at hyes
      cases hyes
    · exact program_done_not_failed he hrun hs (hphase.symm.trans ht)
  | busFailure u =>
    rw [hrun] at h
    cases h
    exact ⟨s0, st, u, he, hruns, hrun, rfl⟩
  | refused r =>
    rw [hrun] at h
    cases h

/-- Under the oracle that refuses nothing an instruction that answers a next state ran its program to
the end. -/
theorem Runs.unfailing {i : Instr} {s s0 t : State} {st : Option Status} (hruns : Runs i s s0 st)
    (h : exec i { s with busFails := [] } = .next t) :
    ∃ v, runActs (program s i) { s0 with busFails := [] } = .done v ∧ t.trace = v.trace := by
  rw [hruns] at h
  cases hrun : runActs (program s i) { s0 with busFails := [] } with
  | done v =>
    rw [hrun] at h
    exact ⟨v, rfl, (conclude_done h).1⟩
  | busFailure => exact absurd hrun runActs_unfailing
  | refused =>
    rw [hrun] at h
    cases h

/-- Settles O16: the program runs to the batch the oracle refuses; with no failing write the same actions
come before that batch, and it is sent. -/
theorem busFailureEffects : Obligations.BusFailureEffects := by
  intro i s t h hmet
  obtain ⟨s0, st, u, he, hruns, hfail, rfl⟩ := exec_busFailure h hmet
  obtain ⟨l1, b, l2, v, hl, hdone, hw, hno, rfl⟩ := runActs_busFailure_split hfail
  obtain ⟨es, htrace, hxfer, hwidth, hfails, hok⟩ := runActs_done_wrote hdone
  obtain ⟨htrace0, hxfer0, hwidth0, hfails0⟩ := he.wire
  simp only [takeBusFailure_phase, takeBusFailure_panel, undefine_undef, takeBusFailure_busy,
    takeBusFailure_busWidth, takeBusFailure_resp, takeBusFailure_xfer, true_and, Nat.add_sub_cancel]
  refine ⟨by omega, (busOk_congr (hfails.trans hfails0) _).symm.trans hno, fun k hlo hhi => ?_,
    fun w hexec => ?_⟩
  · exact (busOk_congr hfails0 k).symm.trans (hok k (by omega) hhi)
  · obtain ⟨v', hrun, hw'⟩ := hruns.unfailing hexec
    rw [hl] at hrun
    obtain ⟨rest, hrest⟩ := runActs_past_failure hdone hw hrun
    refine ⟨es, b, rest, ?_, by rw [hxfer, hxfer0], ?_⟩
    · rw [hw', hrest, htrace, htrace0, List.append_assoc]
    · rw [takeBusFailure_trace, ← hwidth0, ← hwidth, ← htrace0, ← htrace]
      split <;> simp

end Sys2Proof.Machine
end

section
/-! Window addressing on the panel: the moves of the window-address state machine (42 R144), and a stream
of pixels from the window's first pixel on (42 R148 to R150). -/

namespace Sys2Proof.Machine

/-! ## The three states -/

theorem windowState_eq_armed_iff {cfg : Cfg} {p : Panel} :
    p.windowState cfg = .armed ↔ p.armed = true := by
  cases ha : p.armed
  · simp only [Panel.windowState, ha, Bool.false_eq_true, if_false, iff_false]
    split
    · simp
    · split <;> simp
  · simp [Panel.windowState, ha]

theorem windowState_of_listed {cfg : Cfg} {p : Panel} {c : WireCmd} (ha : p.armed = false)
    (hc : p.cmd.bind cfg.command? = some c) :
    p.windowState cfg = if p.par.length < cfg.expected c then .collecting else .idle := by
  simp [Panel.windowState, ha, hc]

theorem commandByte_cmd {cfg : Cfg} (n : Nat) (p : Panel) {b : Byte}
    (hb : cfg.command? b ≠ some .swreset) : (p.commandByte cfg n b).cmd = some b := by
  simp only [Panel.commandByte]
  split
  · exact absurd ‹_› hb
  all_goals rfl

theorem commandByte_windowState {cfg : Cfg} (hwf : cfg.opcodes.Nodup) (n : Nat) (p : Panel) {b : Byte}
    {c : WireCmd} (hb : cfg.command? b = some c) :
    (p.commandByte cfg n b).windowState cfg =
      if c = .ramwr then .armed else if cfg.expected c = 0 then .idle else .collecting := by
  by_cases harm : c = .ramwr
  · subst harm
    have hop : cfg.opcRamwr = b := opcode_of_command? cfg b .ramwr hb
    rw [if_pos rfl, windowState_eq_armed_iff]
    simp [Panel.commandByte, hb, Panel.setCursor, Panel.beginCommand, hop]
  by_cases hreset : c = .swreset
  · simp [Panel.commandByte, hb, hreset, Panel.reset, Panel.windowState, Cfg.expected]
  · have hcmd := commandByte_cmd (cfg := cfg) n p (b := b) (by simpa [hb] using hreset)
    have harmed := commandByte_armed hwf n p (b := b) (by simpa [hb] using harm)
    rw [windowState_of_listed harmed (c := c) (by simpa [hcmd] using hb), commandByte_par, if_neg harm]
    by_cases hexp : cfg.expected c = 0
    · simp [hexp]
    · simp [hexp, Nat.pos_of_ne_zero hexp]

theorem dataByte_windowState_of_collecting {cfg : Cfg} (w h : Nat) {p : Panel} {c : WireCmd}
    (hp : p.windowState cfg = .collecting) (hc : p.cmd.bind cfg.command? = some c) (b : Byte) :
    (p.dataByte cfg w h b).windowState cfg =
      if p.par.length + 1 = cfg.expected c then .idle else .collecting := by
  have ha : p.armed = false := by
    by_contra harmed
    rw [windowState_eq_armed_iff.2 (by simpa using harmed)] at hp
    cases hp
  have hopen : p.par.length < cfg.expected c := by
    by_contra hfull
    rw [windowState_of_listed ha hc, if_neg hfull] at hp
    cases hp
  have hparam : p.dataByte cfg w h b = p.parameterByte cfg b := by simp [Panel.dataByte, ha]
  obtain ⟨hcmd, hpar⟩ := parameterByte_latch cfg p b
  rw [hparam, windowState_of_listed ((parameterByte_armed cfg p b).trans ha) (by rw [hcmd, hc]), hpar,
    List.length_append, List.length_singleton]
  by_cases hlast : p.par.length + 1 = cfg.expected c
  · rw [if_pos hlast, if_neg (by omega)]
  · rw [if_neg hlast, if_pos (by omega)]

theorem advance_armed (p : Panel) : p.advance.armed = p.armed := by
  unfold Panel.advance
  split
  · rfl
  · split <;> rfl

theorem writePixel_armed (cfg : Cfg) (w h : Nat) (p : Panel) (c : Color565) :
    (p.writePixel cfg w h c).armed = p.armed := by
  rcases writePixel_cases cfg w h p c with ⟨_, e⟩ | ⟨_, _, e⟩ | ⟨_, _, e⟩ <;> rw [e]
  exact advance_armed _

theorem dataByte_armed {cfg : Cfg} (w h : Nat) {p : Panel} (ha : p.armed = true) (b : Byte) :
    (p.dataByte cfg w h b).armed = true := by
  cases hh : p.half with
  | none => rwa [dataByte_first w h ha hh]
  | some hi => rwa [dataByte_second w h ha hh, writePixel_armed]

theorem dataWord_armed {cfg : Cfg} (w h : Nat) {p : Panel} (ha : p.armed = true) (c : Word16) :
    (p.dataWord cfg w h c).armed = true := by
  cases hh : p.half with
  | none => rwa [dataWord_pixel w h ha hh, writePixel_armed]
  | some hi => simp [Panel.dataWord, ha, hh]

/-- Settles O27: a command byte by its opcode, a parameter byte by the length of the list, a pixel unit
because it leaves `P.armed` alone. -/
theorem windowStateMachine : Obligations.WindowStateMachine := by
  intro cfg p hwf
  refine ⟨fun n b c hb => commandByte_windowState hwf.nodup n p hb,
    fun w h b c hp hc => dataByte_windowState_of_collecting w h hp hc b, fun w h b x hp => ?_⟩
  rw [windowState_eq_armed_iff] at hp
  simp only [windowState_eq_armed_iff]
  exact ⟨dataByte_armed w h hp b, dataWord_armed w h hp x⟩

/-! ## The pixels of a window -/

/-- The width of the window (R148). -/
def Panel.windowWidth (p : Panel) : Nat := p.ec.val.toNat - p.sc.val.toNat + 1

/-- The height of the window (R148). -/
def Panel.windowHeight (p : Panel) : Nat := p.ep.val.toNat - p.sp.val.toNat + 1

/-- Pixel `k` of the window, row by row, as a key of the frame memory (R148). -/
def Panel.windowKey (p : Panel) (k : Nat) : Nat :=
  pixelKey (p.sc.val.toNat + k % p.windowWidth) (p.sp.val.toNat + k / p.windowWidth)

/-- The panel `p` with its cursor where it is `k` pixels after the window's first one (past the last
pixel it begins anew), and with the frame memory `m`. -/
def Panel.streamed (p : Panel) (k : Nat) (m : List (Nat × Color565)) : Panel :=
  { p with
    cx := { p.sc with val := p.sc.val + BitVec.ofNat 16 (k % p.windowWidth) }
    cy := { p.sp with val := p.sp.val + BitVec.ofNat 16 (k / p.windowWidth % p.windowHeight) }
    fm := m }

/-- The panel's window is a proper one: neither of its ranges is reversed (R149). -/
def Panel.Proper (p : Panel) : Prop :=
  p.sc.val.toNat ≤ p.ec.val.toNat ∧ p.sp.val.toNat ≤ p.ep.val.toNat

/-- A valid window has no reversed range and ends on the screen (R149). -/
theorem windowOk_bounds {cfg : Cfg} {w h : Nat} {p : Panel} (hw : p.windowOk cfg w h = true) :
    p.Proper ∧ p.ec.val.toNat < w ∧ p.ep.val.toNat < h := by
  simp only [Panel.windowOk, Bool.and_eq_true, decide_eq_true_eq] at hw
  obtain ⟨⟨⟨⟨⟨-, hx⟩, hxw⟩, hy⟩, hyh⟩, -⟩ := hw
  exact ⟨⟨hx, hy⟩, hxw, hyh⟩

theorem windowOk_proper {cfg : Cfg} {w h : Nat} {p : Panel} (hw : p.windowOk cfg w h = true) :
    p.Proper := (windowOk_bounds hw).1

/-- An offset that stays below the end of a range of words does not wrap. -/
theorem toNat_add_ofNat_of_range {lo hi : Word16} {i : Nat} (h : lo.toNat ≤ hi.toNat)
    (hi' : i < hi.toNat - lo.toNat + 1) : (lo + BitVec.ofNat 16 i).toNat = lo.toNat + i := by
  have hhi := hi.isLt
  rw [BitVec.toNat_add, BitVec.toNat_ofNat, Nat.mod_eq_of_lt (a := i) (by omega),
    Nat.mod_eq_of_lt (by omega)]

theorem streamed_cx_toNat {p : Panel} (hp : p.Proper) (k : Nat) (m : List (Nat × Color565)) :
    (p.streamed k m).cx.val.toNat = p.sc.val.toNat + k % p.windowWidth :=
  toNat_add_ofNat_of_range hp.1 (Nat.mod_lt k (Nat.succ_pos _))

theorem streamed_cy_toNat {p : Panel} (hp : p.Proper) (k : Nat) (m : List (Nat × Color565)) :
    (p.streamed k m).cy.val.toNat = p.sp.val.toNat + k / p.windowWidth % p.windowHeight :=
  toNat_add_ofNat_of_range hp.2 (Nat.mod_lt _ (Nat.succ_pos _))

/-- Before the first pixel, and at every later passage, the cursor is at the window's first pixel. -/
theorem streamed_of_first {p : Panel} {k : Nat} (hcx : p.cx = p.sc) (hcy : p.cy = p.sp)
    (hcol : k % p.windowWidth = 0) (hrow : k / p.windowWidth % p.windowHeight = 0)
    (m : List (Nat × Color565)) : p.streamed k m = { p with fm := m } := by
  simp [Panel.streamed, hcol, hrow, hcx, hcy]

/-- One step further in a row. -/
theorem succ_div_mod_of_lt {k n : Nat} (h : k % n + 1 < n) :
    (k + 1) / n = k / n ∧ (k + 1) % n = k % n + 1 := by
  have hk := Nat.mod_add_div k n
  exact (Nat.div_mod_unique (by omega)).2 ⟨by omega, h⟩

/-- One step from the end of a row to the next one. -/
theorem succ_div_mod_of_eq {k n : Nat} (h : k % n + 1 = n) :
    (k + 1) / n = k / n + 1 ∧ (k + 1) % n = 0 := by
  have hk := Nat.mod_add_div k n
  exact (Nat.div_mod_unique (by omega)).2 ⟨by rw [Nat.mul_add]; omega, by omega⟩

theorem sc_add_windowWidth {p : Panel} (hp : p.Proper) :
    p.sc.val.toNat + p.windowWidth = p.ec.val.toNat + 1 := by
  obtain ⟨hx, -⟩ := hp
  unfold Panel.windowWidth
  omega

theorem sp_add_windowHeight {p : Panel} (hp : p.Proper) :
    p.sp.val.toNat + p.windowHeight = p.ep.val.toNat + 1 := by
  obtain ⟨-, hy⟩ := hp
  unfold Panel.windowHeight
  omega

/-- The cursor's three moves are one: to the next pixel of the window, row by row, and from the last one
back to the first (R148). -/
theorem advance_streamed {p : Panel} (hp : p.Proper) (k : Nat) (m : List (Nat × Color565)) :
    (p.streamed k m).advance = p.streamed (k + 1) m := by
  have hcx := streamed_cx_toNat hp k m
  have hcy := streamed_cy_toNat hp k m
  have hec : p.sc.val.toNat + p.windowWidth = (p.streamed k m).ec.val.toNat + 1 := sc_add_windowWidth hp
  have hep : p.sp.val.toNat + p.windowHeight = (p.streamed k m).ep.val.toNat + 1 :=
    sp_add_windowHeight hp
  have hcol : k % p.windowWidth < p.windowWidth := Nat.mod_lt k (Nat.succ_pos _)
  have hrow : k / p.windowWidth % p.windowHeight < p.windowHeight := Nat.mod_lt _ (Nat.succ_pos _)
  unfold Panel.advance
  by_cases hx : k % p.windowWidth + 1 < p.windowWidth
  · obtain ⟨hdiv, hmod⟩ := succ_div_mod_of_lt hx
    rw [if_pos (by omega)]
    simp [Panel.streamed, hdiv, hmod, BitVec.ofNat_add, BitVec.add_assoc]
  · obtain ⟨hdiv, hmod⟩ := succ_div_mod_of_eq (k := k) (n := p.windowWidth) (by omega)
    rw [if_neg (by omega)]
    by_cases hy : k / p.windowWidth % p.windowHeight + 1 < p.windowHeight
    · obtain ⟨-, hmod'⟩ := succ_div_mod_of_lt hy
      rw [if_pos (by omega)]
      simp [Panel.streamed, hdiv, hmod, hmod', BitVec.ofNat_add, BitVec.add_assoc]
    · obtain ⟨-, hmod'⟩ :=
        succ_div_mod_of_eq (k := k / p.windowWidth) (n := p.windowHeight) (by omega)
      rw [if_neg (by omega)]
      simp [Panel.streamed, hdiv, hmod, hmod']

/-- The row of a pixel of the window. -/
theorem row_lt_windowHeight {p : Panel} {k : Nat} (hk : k < p.windowWidth * p.windowHeight) :
    k / p.windowWidth < p.windowHeight :=
  Nat.div_lt_of_lt_mul hk

/-- Different pixels of the window have different keys. -/
theorem windowKey_inj {p : Panel} (hp : p.Proper) {j k : Nat}
    (h : p.windowKey j = p.windowKey k) : j = k := by
  have hec := sc_add_windowWidth hp
  have hend := p.ec.val.isLt
  have hj : j % p.windowWidth < p.windowWidth := Nat.mod_lt j (Nat.succ_pos _)
  have hk : k % p.windowWidth < p.windowWidth := Nat.mod_lt k (Nat.succ_pos _)
  obtain ⟨hcol, hrow⟩ := pixelKey_inj _ _ _ _ (by omega) (by omega) h
  have hcol' : j % p.windowWidth = k % p.windowWidth := by omega
  have hrow' : j / p.windowWidth = k / p.windowWidth := by omega
  rw [← Nat.mod_add_div j p.windowWidth, hcol', hrow', Nat.mod_add_div]

/-- One pixel of a stream is written at its place in the window, and the cursor goes on (R148). -/
theorem dataWord_streamed {cfg : Cfg} {w h : Nat} {p : Panel} (hu : p.undef = false)
    (ha : p.armed = true) (hh : p.half = none) (hw : p.windowOk cfg w h = true) {k : Nat}
    (hk : k < p.windowWidth * p.windowHeight) (m : List (Nat × Color565)) (c : Word16) :
    (p.streamed k m).dataWord cfg w h c = p.streamed (k + 1) (Memory.write m (p.windowKey k) c) := by
  have hp := windowOk_proper hw
  have hkey : pixelKey (p.streamed k m).cx.val.toNat (p.streamed k m).cy.val.toNat = p.windowKey k := by
    rw [streamed_cx_toNat hp, streamed_cy_toNat hp, Nat.mod_eq_of_lt (row_lt_windowHeight hk)]
    rfl
  have hundef : ¬ (p.streamed k m).undef = true := by simpa [Panel.streamed] using hu
  rw [dataWord_pixel w h (p := p.streamed k m) ha hh, Panel.writePixel, if_neg hundef, hkey,
    ← advance_streamed hp]
  exact if_pos hw

/-- The frame memory `m'` is `m` with the colours `l` at the window's first pixels. -/
def Panel.Painted (p : Panel) (l : List Word16) (m m' : List (Nat × Color565)) : Prop :=
  (∀ k (hk : k < l.length), Memory.read m' (p.windowKey k) = some l[k]) ∧
  ∀ key, (∀ k < l.length, key ≠ p.windowKey k) → Memory.read m' key = Memory.read m key

theorem painted_nil (p : Panel) (m : List (Nat × Color565)) : p.Painted [] m m :=
  ⟨fun _ hk => absurd hk (Nat.not_lt_zero _), fun _ _ => rfl⟩

theorem Panel.Painted.snoc {p : Panel} (hp : p.Proper) {l : List Word16} {m m' : List (Nat × Color565)}
    (h : p.Painted l m m') (c : Word16) :
    p.Painted (l ++ [c]) m (Memory.write m' (p.windowKey l.length) c) := by
  obtain ⟨hin, hout⟩ := h
  refine ⟨fun k hk => ?_, fun key hkey => ?_⟩
  · rw [List.length_append, List.length_singleton] at hk
    by_cases hlast : k = l.length
    · subst hlast
      simpa using memory_read_write_same _ _ _
    · rw [memory_read_write_other _ _ _ _ fun e => hlast (windowKey_inj hp e),
        List.getElem_append_left (by omega)]
      exact hin k (by omega)
  · rw [memory_read_write_other _ _ _ _ (hkey _ (by simp))]
    exact hout key fun k hk => hkey k (by simp; omega)

/-- A stream of at most as many pixels as the window has, from its first pixel on (R148). -/
theorem foldl_dataWord_streamed {cfg : Cfg} {w h : Nat} {p : Panel} (hu : p.undef = false)
    (ha : p.armed = true) (hh : p.half = none) (hw : p.windowOk cfg w h = true) (hcx : p.cx = p.sc)
    (hcy : p.cy = p.sp) {l : List Word16} (hl : l.length ≤ p.windowWidth * p.windowHeight) :
    ∃ m, l.foldl (Panel.dataWord cfg w h) p = p.streamed l.length m ∧ p.Painted l p.fm m := by
  induction l using List.reverseRecOn with
  | nil => exact ⟨p.fm, (streamed_of_first hcx hcy (by simp) (by simp) _).symm, painted_nil p p.fm⟩
  | append_singleton l c ih =>
    rw [List.length_append, List.length_singleton] at hl
    obtain ⟨m, hfold, hm⟩ := ih (by omega)
    refine ⟨_, ?_, hm.snoc (windowOk_proper hw) c⟩
    rw [List.foldl_append, hfold, List.length_append]
    exact dataWord_streamed hu ha hh hw hl m c

/-- Settles O28: fewer pixels than the window has leave the cursor in the window's last row or before. -/
theorem pixelStreamIsRowMajor : Obligations.PixelStreamIsRowMajor := by
  intro cfg w h p l hu ha hh hw hcx hcy hl
  have hp := windowOk_proper hw
  obtain ⟨m, hfold, hin, hout⟩ := foldl_dataWord_streamed hu ha hh hw hcx hcy (Nat.le_of_lt hl)
  refine ⟨_, hfold, rfl, streamed_cx_toNat hp _ _, ?_, hin, hout⟩
  rw [streamed_cy_toNat hp, Nat.mod_eq_of_lt (row_lt_windowHeight hl)]
  rfl

/-- Pixel `i` of row `j` of the window is its pixel `j*W + i`. -/
theorem windowKey_row {p : Panel} {i j : Nat} (hi : i < p.windowWidth) :
    p.windowKey (j * p.windowWidth + i) = pixelKey (p.sc.val.toNat + i) (p.sp.val.toNat + j) := by
  have hpos : 0 < p.windowWidth := Nat.succ_pos _
  rw [Panel.windowKey, Nat.mul_comm j, Nat.mul_add_mod, Nat.mod_eq_of_lt hi, Nat.mul_add_div hpos,
    Nat.div_eq_of_lt hi, Nat.add_zero]

/-- Settles O29: after the window's last pixel the cursor is back at the first one. -/
theorem completeFill : Obligations.CompleteFill := by
  rintro cfg w h p l _ _ hu ha hh hw hcx hcy rfl rfl hl
  have hpos : 0 < p.windowWidth := Nat.succ_pos _
  have hlen : l.length = p.windowWidth * p.windowHeight := hl
  obtain ⟨m, hfold, hin, hout⟩ := foldl_dataWord_streamed hu ha hh hw hcx hcy hlen.le
  have hcol : l.length % p.windowWidth = 0 := by rw [hlen, Nat.mul_mod_right]
  have hrow : l.length / p.windowWidth % p.windowHeight = 0 := by
    rw [hlen, Nat.mul_div_cancel_left _ hpos, Nat.mod_self]
  rw [streamed_of_first hcx hcy hcol hrow] at hfold
  refine ⟨_, hfold, rfl, fun i j (hi : i < p.windowWidth) hj => ?_,
    fun key hkey => hout key fun k hk => ?_⟩
  · have hk : j * p.windowWidth + i < l.length := by
      calc j * p.windowWidth + i < (j + 1) * p.windowWidth := by rw [Nat.add_one_mul]; omega
        _ ≤ p.windowHeight * p.windowWidth := Nat.mul_le_mul_right _ hj
        _ = l.length := by rw [hlen, Nat.mul_comm]
    rw [← windowKey_row hi]
    exact (hin _ hk).trans (List.getElem?_eq_getElem hk).symm
  · exact hkey _ _ (Nat.mod_lt k hpos) (row_lt_windowHeight (hlen ▸ hk))

end Sys2Proof.Machine
end

section
/-! Window addressing on the wire: the range frames (42 R145, R146) and the ten events of `setWindow` (42
R140 to R142). -/

namespace Sys2Proof.Machine

/-! ## Coordinates -/

@[simp] theorem parCoord_first (a b : Word16) : parCoord (be16 a ++ be16 b) 0 = a :=
  ofBe16_hi8_lo8 a

@[simp] theorem parCoord_second (a b : Word16) : parCoord (be16 a ++ be16 b) 1 = b :=
  ofBe16_hi8_lo8 b

/-- The engine's two bytes of a coordinate are those of R10. -/
theorem be16_wireCoord (v : Int) : be16 (wireCoord v) = coordBytes v := by
  have hhi : hi8 (wireCoord v) = BitVec.ofInt 8 (v % 65536 / 256) := by
    apply BitVec.eq_of_toNat_eq
    simp only [hi8, wireCoord, BitVec.extractLsb'_toNat, BitVec.toNat_ofInt, Nat.shiftRight_eq_div_pow]
    omega
  have hlo : lo8 (wireCoord v) = BitVec.ofInt 8 (v % 256) := by
    apply BitVec.eq_of_toNat_eq
    simp only [lo8, wireCoord, BitVec.extractLsb'_toNat, BitVec.toNat_ofInt, Nat.shiftRight_zero]
    omega
  rw [be16, hhi, hlo, coordBytes]

theorem coordParams_eq (a b : Int) : coordParams a b = coordBytes a ++ coordBytes b := by
  rw [coordParams, be16_wireCoord, be16_wireCoord]

/-! ## The range frames -/

theorem rangeParams_ne_nil (a b : Word16) : be16 a ++ be16 b ≠ [] := List.cons_ne_nil _ _

/-- The panel after a CASET frame (R145). -/
theorem afterFrame_caset_panel {s : State} (hwf : s.cfg.wf) (a b : Word16) :
    (afterFrame s.cfg.opcCaset (be16 a ++ be16 b) s).panel =
      { s.panel with
        undef := s.panel.undef || s.panel.incomplete s.cfg, cmd := some s.cfg.opcCaset
        par := be16 a ++ be16 b, half := none, armed := false, sc := .of a, ec := .of b } := by
  have h := afterFrame_panel hwf (c := .caset) (rangeParams_ne_nil a b) rfl
  simpa only [Cfg.opcode, Panel.latch, parCoord_first, parCoord_second] using h

/-- The panel after a PASET frame (R146). -/
theorem afterFrame_paset_panel {s : State} (hwf : s.cfg.wf) (a b : Word16) :
    (afterFrame s.cfg.opcPaset (be16 a ++ be16 b) s).panel =
      { s.panel with
        undef := s.panel.undef || s.panel.incomplete s.cfg, cmd := some s.cfg.opcPaset
        par := be16 a ++ be16 b, half := none, armed := false, sp := .of a, ep := .of b } := by
  have h := afterFrame_panel hwf (c := .paset) (rangeParams_ne_nil a b) rfl
  simpa only [Cfg.opcode, Panel.latch, parCoord_first, parCoord_second] using h

@[simp] theorem afterFrame_cfg (op : Byte) (l : List Byte) (s : State) :
    (afterFrame op l s).cfg = s.cfg := by simp [afterFrame]

@[simp] theorem afterFrame_busWidth (op : Byte) (l : List Byte) (s : State) :
    (afterFrame op l s).busWidth = s.busWidth := by simp [afterFrame]

@[simp] theorem afterFrame_resp (op : Byte) (l : List Byte) (s : State) :
    (afterFrame op l s).resp = s.resp := by simp [afterFrame]

theorem State.writesOk.afterFrame {s : State} {n : Nat} (h : s.writesOk (n + 2)) (op : Byte)
    (l : List Byte) : (afterFrame op l s).writesOk n :=
  (State.writesOk.afterTransfer h _ _).afterTransfer _ _

/-- Settles O19: each frame has the four parameter bytes its command expects. -/
theorem rangeCommandsLatch : Obligations.RangeCommandsLatch := by
  intro s a b hwf hw hok
  have hcompletes (op : Byte) := sendFrame_completes hw hok op (rangeParams_ne_nil a b)
  exact ⟨⟨_, hcompletes _, afterFrame_sent _ _ s, afterFrame_resp _ _ s,
      afterFrame_caset_panel hwf a b⟩,
    _, hcompletes _, afterFrame_sent _ _ s, afterFrame_resp _ _ s, afterFrame_paset_panel hwf a b⟩

/-! ## The window -/

theorem commandByte_ramwr {cfg : Cfg} (hwf : cfg.opcodes.Nodup) (n : Nat) (p : Panel) :
    p.commandByte cfg n cfg.opcRamwr =
      { p with
        undef := p.undef || p.incomplete cfg, cmd := some cfg.opcRamwr, par := [], half := none
        armed := true, cx := p.sc, cy := p.sp } := by
  have hk : cfg.command? cfg.opcRamwr = some .ramwr := command?_opcode cfg hwf .ramwr
  simp [Panel.commandByte, hk, Panel.beginCommand, Panel.setCursor]

theorem State.writesOk.mono {s : State} {m n : Nat} (h : s.writesOk n) (hmn : m ≤ n) : s.writesOk m :=
  fun k hlo hhi => h k hlo (by omega)

/-- The state after the two range frames of a window (R140). -/
def afterRanges (left right top bottom : Int) (s : State) : State :=
  afterFrame s.cfg.opcPaset (coordParams top bottom)
    (afterFrame s.cfg.opcCaset (coordParams left right) s)

/-- The state after a successful `setWindow` (R140). -/
def afterWindow (left right top bottom : Int) (s : State) : State :=
  afterTransfer s.cfg.dcCmdLevel (.bytes [s.cfg.opcRamwr]) (afterRanges left right top bottom s)

section Window

variable (left right top bottom : Int)

@[simp] theorem afterRanges_cfg (s : State) : (afterRanges left right top bottom s).cfg = s.cfg := by
  simp [afterRanges]

@[simp] theorem afterWindow_cfg (s : State) : (afterWindow left right top bottom s).cfg = s.cfg := by
  simp [afterWindow]

@[simp] theorem afterWindow_busWidth (s : State) :
    (afterWindow left right top bottom s).busWidth = s.busWidth := by
  simp [afterWindow, afterRanges]

@[simp] theorem afterWindow_resp (s : State) :
    (afterWindow left right top bottom s).resp = s.resp := by
  simp [afterWindow, afterRanges]

@[simp] theorem afterWindow_width (s : State) :
    (afterWindow left right top bottom s).width = s.width := by
  simp [afterWindow, afterRanges, afterFrame]

@[simp] theorem afterWindow_height (s : State) :
    (afterWindow left right top bottom s).height = s.height := by
  simp [afterWindow, afterRanges, afterFrame]

theorem State.writesOk.afterWindow {s : State} {n : Nat} (h : s.writesOk (n + 5)) :
    (afterWindow left right top bottom s).writesOk n :=
  ((State.writesOk.afterFrame (n := n + 3) h _ _).afterFrame _ _).afterTransfer _ _

theorem runActs_setWindow {s : State} (hw : s.busWidth = .w8) (hok : s.writesOk 5) :
    runActs (setWindowActs s.cfg left right top bottom) s =
      .done (afterWindow left right top bottom s) := by
  have hcaset := runActs_frame (op := s.cfg.opcCaset) (l := coordParams left right) hw
    (hok.mono (by omega))
  have hok' := hok.afterFrame s.cfg.opcCaset (coordParams left right)
  have hpaset := runActs_frame (op := s.cfg.opcPaset) (l := coordParams top bottom)
    ((afterFrame_busWidth _ _ s).trans hw) (hok'.mono (by omega))
  rw [afterFrame_cfg] at hpaset
  have hranges := (runActs_append_done hcaset).trans hpaset
  rw [setWindowActs, runActs_append_done hranges]
  exact runActs_transfer (b := .bytes [s.cfg.opcRamwr]) (by simpa [batchWidth] using hw)
    (hok'.afterFrame _ _).head

theorem afterWindow_sent (s : State) :
    s.sent (afterWindow left right top bottom s) (windowEvents s.cfg left right top bottom)
      s.cfg.dcCmdLevel := by
  have hpaset := afterFrame_sent s.cfg.opcPaset (coordBytes top ++ coordBytes bottom)
    (afterFrame s.cfg.opcCaset (coordBytes left ++ coordBytes right) s)
  rw [afterFrame_cfg] at hpaset
  rw [afterWindow, afterRanges, coordParams_eq, coordParams_eq]
  exact ((afterFrame_sent _ _ s).append hpaset).append (afterTransfer_sent _ _ _)

theorem afterRanges_panel {s : State} (hwf : s.cfg.wf) :
    (afterRanges left right top bottom s).panel =
      { s.panel with
        undef := s.panel.undef || s.panel.incomplete s.cfg, cmd := some s.cfg.opcPaset
        par := coordParams top bottom, half := none, armed := false
        sc := .of (wireCoord left), ec := .of (wireCoord right)
        sp := .of (wireCoord top), ep := .of (wireCoord bottom) } := by
  have hfull : (afterFrame s.cfg.opcCaset (coordParams left right) s).panel.incomplete s.cfg = false :=
    afterFrame_incomplete hwf (c := .caset) (rangeParams_ne_nil _ _) rfl
  have hpaset := afterFrame_paset_panel (s := afterFrame s.cfg.opcCaset (coordParams left right) s)
    ((afterFrame_cfg _ _ s).symm ▸ hwf) (wireCoord top) (wireCoord bottom)
  rw [afterFrame_cfg, hfull, coordParams, afterFrame_caset_panel hwf, Bool.or_false] at hpaset
  exact hpaset

/-- The panel after a window: the two ranges, and the cursor at the first pixel (R140, R147). -/
theorem afterWindow_panel {s : State} (hwf : s.cfg.wf) :
    (afterWindow left right top bottom s).panel =
      { s.panel with
        undef := s.panel.undef || s.panel.incomplete s.cfg, cmd := some s.cfg.opcRamwr, par := []
        half := none, armed := true
        sc := .of (wireCoord left), ec := .of (wireCoord right)
        sp := .of (wireCoord top), ep := .of (wireCoord bottom)
        cx := .of (wireCoord left), cy := .of (wireCoord top) } := by
  have hpaset : s.cfg.command? s.cfg.opcPaset = some .paset := command?_opcode s.cfg hwf.nodup .paset
  have hfull : (afterRanges left right top bottom s).panel.incomplete s.cfg = false := by
    rw [afterRanges_panel _ _ _ _ hwf]
    exact incomplete_of_complete rfl hpaset rfl
  have hramwr := sendCommand_panel s.cfg.opcRamwr (afterRanges left right top bottom s)
  rw [afterRanges_cfg, commandByte_ramwr hwf.nodup, hfull, afterRanges_panel _ _ _ _ hwf,
    Bool.or_false] at hramwr
  exact hramwr

end Window

/-- Settles O26: the two range frames and the memory-write command, one after the other. -/
theorem setWindowCompletes : Obligations.SetWindowCompletes := by
  intro s left right top bottom hwf hw hok
  refine ⟨afterWindow left right top bottom s, ?_, afterWindow_sent _ _ _ _ s,
    afterWindow_resp _ _ _ _ s, afterWindow_panel _ _ _ _ hwf⟩
  have hexec : exec (.setWindow left right top bottom) s =
    procedure (setWindowActs s.cfg left right top bottom) s := rfl
  rw [hexec, procedure, runActs_setWindow _ _ _ _ hw hok]

end Sys2Proof.Machine
end

section
/-! Word batches in the width bracket (41 R129), and DRAW_PIXEL off the screen (42 R149, 45 R185). -/

namespace Sys2Proof.Machine

/-! ## Word batches in the width bracket -/

/-- The state after word batches, each one data transfer (R127). -/
def afterWords : List (List Word16) → State → State
  | [], s => s
  | l :: batches, s => afterWords batches (afterTransfer s.cfg.dcDataLevel (.words l) s)

/-- The state after word batches in the width bracket (R129). -/
def afterBracket (batches : List (List Word16)) (s : State) : State :=
  setWidth .w8 (afterWords batches (setWidth .w16 s))

theorem runActs_words {batches : List (List Word16)} {s : State} (hw : s.busWidth = .w16)
    (hok : s.writesOk batches.length) :
    runActs (batches.flatMap (sendData16Acts s.cfg)) s = .done (afterWords batches s) := by
  induction batches generalizing s with
  | nil => rfl
  | cons l batches ih =>
    have hrest := ih (s := afterTransfer s.cfg.dcDataLevel (.words l) s)
      ((afterTransfer_busWidth _ _ s).trans hw) (hok.afterTransfer _ _)
    rw [afterTransfer_cfg] at hrest
    rw [List.flatMap_cons, sendData16Acts, runActs_append_done (runActs_transfer hw hok.head)]
    exact hrest

theorem runActs_bracket {batches : List (List Word16)} {s : State} (hok : s.writesOk batches.length) :
    runActs (bracketActs s.cfg batches) s = .done (afterBracket batches s) := by
  have hwords := runActs_words (s := setWidth .w16 s) rfl hok
  rw [bracketActs, List.append_assoc]
  exact runActs_append_done hwords

theorem afterWords_trace (batches : List (List Word16)) (s : State) :
    (afterWords batches s).trace = s.trace ++ batches.flatMap (wordEvents s.cfg) := by
  induction batches generalizing s with
  | nil => simp [afterWords]
  | cons l batches ih => simp [afterWords, ih, wordEvents, batchEvent]

theorem afterBracket_trace (batches : List (List Word16)) (s : State) :
    (afterBracket batches s).trace = s.trace ++ bracketEvents s.cfg batches := by
  simp [afterBracket, afterWords_trace, setWidth, bracketEvents]

/-- The panel receives the words of all batches as one stream (R63). -/
theorem afterWords_panel {s : State} (hwf : s.cfg.wf) (batches : List (List Word16)) :
    (afterWords batches s).panel =
      batches.flatten.foldl (Panel.dataWord s.cfg s.width s.height) s.panel := by
  induction batches generalizing s with
  | nil => rfl
  | cons l batches ih =>
    rw [afterWords, ih (by simpa using hwf), sendData16_panel hwf, List.flatten_cons, List.foldl_append]
    simp

theorem afterBracket_panel {s : State} (hwf : s.cfg.wf) (batches : List (List Word16)) :
    (afterBracket batches s).panel =
      batches.flatten.foldl (Panel.dataWord s.cfg s.width s.height) s.panel :=
  afterWords_panel (s := setWidth .w16 s) hwf batches

/-! ## A pixel off the screen -/

/-- The state after the actions of DRAW_PIXEL (R185). -/
def afterPixel (x y : Int) (c : Color565) (s : State) : State :=
  afterBracket [[c]] (afterWindow x x y y s)

theorem runActs_drawPixel {s : State} (hw : s.busWidth = .w8) (hok : s.writesOk 6) (x y : Int)
    (c : Color565) : runActs (drawPixelActs s.cfg x y c) s = .done (afterPixel x y c s) := by
  have hbracket := runActs_bracket (batches := [[c]]) (hok.afterWindow x x y y)
  rw [afterWindow_cfg] at hbracket
  rw [drawPixelActs, runActs_append_done (runActs_setWindow x x y y hw (hok.mono (by omega)))]
  exact hbracket

theorem afterPixel_trace (x y : Int) (c : Color565) (s : State) :
    (afterPixel x y c s).trace = s.trace ++ pixelEvents s.cfg x y c := by
  obtain ⟨htrace, -⟩ := afterWindow_sent x x y y s
  rw [afterPixel, afterBracket_trace, afterWindow_cfg, htrace, pixelEvents, List.append_assoc]

theorem afterPixel_panel {s : State} (hwf : s.cfg.wf) (x y : Int) (c : Color565) :
    (afterPixel x y c s).panel =
      (afterWindow x x y y s).panel.dataWord s.cfg s.width s.height c := by
  rw [afterPixel, afterBracket_panel (by simpa using hwf)]
  simp

/-- An operation in `P9` whose actions come to their end answers with its status (R238). -/
theorem operation_completes {plan : State → List Act × Status} {s u : State} (hs : s.ready)
    (h : runActs (plan s).1 { s with busy := true } = .done u) :
    operation plan s = .next (answer (plan s).2 0 u) := by
  obtain ⟨hb, hphase, -⟩ := hs
  rw [operation, if_neg (by simp [hb]), if_pos hphase, runAndAnswer, h]

/-- A request coordinate, read as a signed integer, keeps its 16 bits on the wire (R10, R101). -/
@[simp] theorem wireCoord_toInt (v : Word16) : wireCoord v.toInt = v := BitVec.ofInt_toInt

/-- A word below a bound of at most 32768 is the same number as a signed operand: a negative operand is
32768 or more on the wire. -/
theorem toInt_lt_of_toNat_lt {v : Word16} {n : Nat} (hn : n ≤ 32768) (h : v.toNat < n) :
    0 ≤ v.toInt ∧ v.toInt < n := by
  rw [BitVec.toInt_eq_toNat_of_lt (by omega)]
  omega

/-- No word leaves a panel without a valid window defined (R136, R149). -/
theorem dataWord_invalid {cfg : Cfg} {w h : Nat} {p : Panel} (hw : p.windowOk cfg w h = false)
    (c : Word16) : (p.dataWord cfg w h c).undef = true := by
  unfold Panel.dataWord
  split
  · split
    · rcases writePixel_cases cfg w h p c with ⟨hu, e⟩ | ⟨_, hvalid, _⟩ | ⟨_, _, e⟩
      · rw [e, hu]
      · rw [hw] at hvalid
        cases hvalid
      · rw [e]
    · rfl
  · rfl

/-- A pixel outside a screen as small as the legal ones undefines the panel (R149). -/
theorem afterPixel_undef {s : State} (hwf : s.cfg.wf) (hw : s.width ≤ 32768) (hh : s.height ≤ 32768)
    {x y : Word16}
    (hoff : ¬ (0 ≤ x.toInt ∧ x.toInt < s.width ∧ 0 ≤ y.toInt ∧ y.toInt < s.height))
    (c : Color565) : (afterPixel x.toInt y.toInt c s).panel.undef = true := by
  rw [afterPixel_panel hwf]
  refine dataWord_invalid (Bool.eq_false_iff.2 fun hok => hoff ?_) c
  have hscreen := (windowOk_bounds hok).2
  rw [afterWindow_panel _ _ _ _ hwf, wireCoord_toInt, wireCoord_toInt] at hscreen
  obtain ⟨hx, hy⟩ := hscreen
  obtain ⟨hx0, hx1⟩ := toInt_lt_of_toNat_lt hw hx
  obtain ⟨hy0, hy1⟩ := toInt_lt_of_toNat_lt hh hy
  exact ⟨hx0, hx1, hy0, hy1⟩

/-- Once `P.undef` is set no pixel can be claimed to have a value (R43). -/
theorem pixel_of_undef {s : State} (hu : s.panel.undef = true) (x y : Nat) : s.pixel x y = none := by
  simp [State.pixel, State.P, Panel.view, hu, Panel.unknown, Memory.read]

/-- Settles O37: the actions come to their end, and their one word finds no valid window. -/
theorem drawPixelOffScreenUndefines : Obligations.DrawPixelOffScreenUndefines := by
  intro s x y c hwf hs hlegal hok hoff
  obtain ⟨-, -, hw⟩ := id hs
  have hsize : s.width ≤ 32768 ∧ s.height ≤ 32768 := by
    rcases hlegal with ⟨hw, hh⟩ | ⟨hw, hh⟩ <;> omega
  obtain ⟨u, hrun, htrace, hundef⟩ : ∃ u,
      runActs (drawPixelActs s.cfg x.toInt y.toInt c) { s with busy := true } = .done u ∧
      u.trace = s.trace ++ pixelEvents s.cfg x.toInt y.toInt c ∧ u.panel.undef = true :=
    ⟨_, runActs_drawPixel (s := { s with busy := true }) hw hok _ _ c, afterPixel_trace _ _ c _,
      afterPixel_undef hwf hsize.1 hsize.2 hoff c⟩
  have hexec : exec (.drawPixel565 x y c) s = .next (answer .ok 0 u) :=
    operation_completes (plan := fun s => (drawPixelActs s.cfg x.toInt y.toInt c, .ok)) hs hrun
  exact ⟨_, hexec, htrace, rfl, hundef, pixel_of_undef (s := answer .ok 0 u) hundef⟩

end Sys2Proof.Machine
end

section
/-! Runs that come to their end: the events of a list of actions, and that it emits them when its bus
writes are not refused (41 R125 to R130, 60 R229). -/

namespace Sys2Proof.Machine

/-- The events an action emits (R11, R128, R130). -/
def Act.events : Act → List Event
  | .pin line level => [.pin line level]
  | .width w => [.busWidth w]
  | .delay ms => [.delay ms]
  | .write b => [batchEvent b]
  | .screen _ => []
  | .phase _ => []

/-- The events a list of actions emits. -/
def actEvents (l : List Act) : List Event := l.flatMap Act.events

theorem State.Wrote.writesOk {s t : State} {es : List Event} {n : Nat} (h : s.Wrote es t)
    (hok : s.writesOk (busWrites es + n)) : t.writesOk n := by
  obtain ⟨-, hxfer, -, hfails, -⟩ := h
  intro k hlo hhi
  exact (busOk_congr hfails k).trans (hok k (by omega) (by omega))

/-- An action at its own transfer width comes to its end if its bus write, should it be one, is not
refused. -/
theorem runAct_completes {a : Act} {s : State} (hdisc : widthDiscipline s.busWidth a.events = true)
    (hok : s.writesOk (busWrites a.events)) : ∃ t, runAct a s = .done t ∧ s.Wrote a.events t := by
  cases a with
  | pin line level =>
    exact ⟨_, rfl, wrote_of_uncounted (emit_trace _ _) rfl (by simp) (by simp [Act.events, widthAfter])
      (by simp)⟩
  | width w => exact ⟨_, rfl, wrote_of_uncounted (setWidth_trace _ _) rfl rfl rfl rfl⟩
  | delay ms => exact ⟨_, rfl, wrote_of_uncounted (emit_trace _ _) rfl rfl rfl rfl⟩
  | write b =>
    have hw : s.busWidth = batchWidth b := by
      cases b <;> simpa [Act.events, batchEvent, batchWidth, widthDiscipline] using hdisc
    have hgranted : s.busOk s.xfer = true := by cases b <;> exact hok.head
    refine ⟨_, ?_, emit_batch_wrote b hgranted⟩
    rw [runAct, busWriteRun, if_pos hw, if_pos hgranted]
  | screen | phase => exact ⟨_, rfl, wrote_of_uncounted (List.append_nil _).symm rfl rfl rfl rfl⟩

/-- Actions that keep the width discipline (R129) come to their end when their bus writes are not
refused. -/
theorem runActs_completes {l : List Act} {s : State}
    (hdisc : widthDiscipline s.busWidth (actEvents l) = true)
    (hok : s.writesOk (busWrites (actEvents l))) :
    ∃ t, runActs l s = .done t ∧ s.Wrote (actEvents l) t := by
  induction l generalizing s with
  | nil => exact ⟨s, rfl, wrote_of_uncounted (List.append_nil _).symm rfl rfl rfl rfl⟩
  | cons a l ih =>
    rw [actEvents, List.flatMap_cons] at hdisc hok ⊢
    rw [widthDiscipline_append, Bool.and_eq_true] at hdisc
    rw [busWrites_append] at hok
    obtain ⟨hhead, htail⟩ := hdisc
    obtain ⟨u, hrun, hwrote⟩ := runAct_completes hhead (hok.mono (Nat.le_add_right _ _))
    obtain ⟨-, -, hwidth, -⟩ := id hwrote
    obtain ⟨t, hrest, hwrote'⟩ := ih (hwidth ▸ htail) (hwrote.writesOk hok)
    exact ⟨t, by rw [runActs_cons, hrun]; exact hrest, hwrote.trans hwrote'⟩

end Sys2Proof.Machine
end

section
/-! The run of CONSTRUCT (43 R155, R165). The lists of R165 are opened with `delta`: Lean does not derive
an equation lemma for `constructEvents` within its limits. -/

namespace Sys2Proof.Machine

/-! ## The 58 events -/

theorem actEvents_initActs (cfg : Cfg) (o : Orientation) :
    actEvents (initActs cfg o) = constructEvents cfg o := by
  delta constructEvents
  simp [actEvents, Act.events, batchEvent, initActs, initStep1, initStep2, initStep3, initStep4, initStep5,
    initStep6, initStep7, initStep8, initStep9, orientActs, setWindowActs, sendCommandActs, sendData8Acts,
    windowEvents, cmdEvents, dataEvents, coordParams_eq]

theorem constructEvents_length (cfg : Cfg) (o : Orientation) : (constructEvents cfg o).length = 58 := by
  delta constructEvents
  simp [windowEvents, cmdEvents, dataEvents]

theorem constructEvents_busWrites (cfg : Cfg) (o : Orientation) :
    busWrites (constructEvents cfg o) = 26 := by
  delta constructEvents
  simp [windowEvents, cmdEvents, dataEvents, busWrites]

theorem constructEvents_widthDiscipline (cfg : Cfg) (o : Orientation) :
    widthDiscipline .w8 (constructEvents cfg o) = true := by
  delta constructEvents
  simp [windowEvents, cmdEvents, dataEvents, widthDiscipline]

/-! ## The run -/

/-- The state on which CONSTRUCT starts its actions: the lock taken, the parameters stored (R155). -/
def State.constructing (s : State) (o : Orientation) : State :=
  { s with busy := true, ctor := ⟨s.ctorPort, o⟩ }

theorem runActs_init {s : State} (hw : s.busWidth = .w8) (hok : s.writesOk 26) (o : Orientation) :
    ∃ u, runActs (initActs s.cfg o) (s.constructing o) = .done u ∧
      (s.constructing o).Wrote (constructEvents s.cfg o) u := by
  have hwidth : (s.constructing o).busWidth = .w8 := hw
  have hwrites : (s.constructing o).writesOk 26 := hok
  rw [← actEvents_initActs]
  exact runActs_completes (by rw [actEvents_initActs, hwidth, constructEvents_widthDiscipline])
    (by rwa [actEvents_initActs, constructEvents_busWrites])

/-- CONSTRUCT in `P0` with a valid bus identifier answers OK when its actions come to their end (R155). -/
theorem construct_completes {s u : State} {o : Orientation} {bus : Nat} (hb : s.busy = false)
    (hphase : s.phase = .p0) (hbus : s.ctorPort.bus = some bus) (hvalid : bus ∉ s.cfg.invalidBuses)
    (hrun : runActs (initActs s.cfg o) (s.constructing o) = .done u) :
    exec (.construct o) s = .next (answer .ok 0 u) := by
  have hexec : exec (.construct o) s = execConstruct o s := rfl
  have hgood : busValid s.cfg s.ctorPort.bus = true := by simp [busValid, hbus, hvalid]
  rw [hexec, execConstruct, if_neg (by simp [hb]), if_neg (not_not_intro hphase), if_pos hgood,
    ← State.constructing, runAndAnswer, hrun]

/-- Settles O30: the run of the nine steps, and the count of its events. -/
theorem constructEmits58Events : Obligations.ConstructEmits58Events := by
  intro s o bus _ hb hphase hw hbus hvalid hok
  obtain ⟨u, hrun, htrace, hxfer, -⟩ := runActs_init hw hok o
  have h9 : u.phase = .p9 := initActs_phase s.cfg o _ _ trivial hrun
  rw [constructEvents_busWrites] at hxfer
  exact ⟨answer .ok 0 u, construct_completes hb hphase hbus hvalid hrun, htrace,
    constructEvents_length _ _, constructEvents_busWrites _ _, hxfer, h9, rfl⟩

end Sys2Proof.Machine
end

section
/-! The state after CONSTRUCT (43 R169): commands with all their parameters, one after the other, on a
panel with no parameter list left incomplete (41 R132, R134), and the engine's registers. -/

namespace Sys2Proof.Machine

/-! ## Commands with all their parameters -/

/-- The panel after the command `c`, no software reset, with all its parameters `l`, if no parameter list
was left incomplete before it (R132, R134). -/
def Panel.obey (cfg : Cfg) (c : WireCmd) (l : List Byte) (p : Panel) : Panel :=
  let q : Panel := { p with cmd := some (cfg.opcode c), par := l, half := none, armed := c == .ramwr }
  match c with
  | .slpout => { q with sleeping := false }
  | .dispoff => { q with displayOn := false }
  | .dispon => { q with displayOn := true }
  | .ramwr => q.setCursor
  | c => q.latch (cfg.opcode c) l c

theorem obey_incomplete {cfg : Cfg} (hwf : cfg.wf) {c : WireCmd} {l : List Byte}
    (hlen : l.length = cfg.expected c) (p : Panel) : (p.obey cfg c l).incomplete cfg = false := by
  have hcmd : (p.obey cfg c l).cmd = some (cfg.opcode c) := by cases c <;> rfl
  have hpar : (p.obey cfg c l).par = l := by cases c <;> rfl
  exact incomplete_of_complete hcmd (command?_opcode cfg hwf.nodup c) (by rw [hpar, hlen])

theorem opcode_beq_opcRamwr {cfg : Cfg} (hwf : cfg.wf) (c : WireCmd) :
    (cfg.opcode c == cfg.opcRamwr) = (c == .ramwr) := by
  by_cases h : c = .ramwr
  · simp [h, Cfg.opcode]
  · rw [opcode_beq_ramwr hwf.nodup h, beq_eq_false_iff_ne.2 h]

/-- The commands without parameters, but for the software reset (R91). -/
def unaccompanied : List WireCmd := [.slpout, .dispoff, .dispon, .ramwr]

theorem commandByte_obey {cfg : Cfg} (hwf : cfg.wf) {c : WireCmd}
    (hc : c ∈ unaccompanied) {p : Panel} (hi : p.incomplete cfg = false) (n : Nat) :
    p.commandByte cfg n (cfg.opcode c) = p.obey cfg c [] := by
  have hbegin : p.beginCommand cfg (cfg.opcode c) =
      { p with cmd := some (cfg.opcode c), par := [], half := none, armed := c == .ramwr } := by
    simp [Panel.beginCommand, hi, opcode_beq_opcRamwr hwf]
  simp only [Panel.commandByte, command?_opcode cfg hwf.nodup c, hbegin]
  simp only [unaccompanied, List.mem_cons, List.not_mem_nil, or_false] at hc
  rcases hc with rfl | rfl | rfl | rfl <;> rfl

theorem afterFrame_obey {s : State} (hwf : s.cfg.wf) {c : WireCmd} {l : List Byte} (hl : l ≠ [])
    (hlen : l.length = s.cfg.expected c) (hi : s.panel.incomplete s.cfg = false) :
    (afterFrame (s.cfg.opcode c) l s).panel = s.panel.obey s.cfg c l := by
  have hsome : s.cfg.expected c ≠ 0 := hlen ▸ (List.length_pos_iff.2 hl).ne'
  rw [afterFrame_panel hwf hl hlen, hi, Bool.or_false]
  cases c with
  | swreset | slpout | dispoff | dispon | ramwr => exact absurd rfl hsome
  | _ => rfl

/-! ## Actions on a panel with nothing incomplete -/

/-- Under the configuration `cfg`, with the panel `p`, which has no parameter list left incomplete. -/
def State.Shows (cfg : Cfg) (p : Panel) (s : State) : Prop :=
  s.cfg = cfg ∧ s.panel = p ∧ p.incomplete cfg = false

theorem leads_command_shows {cfg : Cfg} (hwf : cfg.wf) {c : WireCmd}
    (hc : c ∈ unaccompanied) (p : Panel) :
    Leads (State.Shows cfg p) (sendCommandActs cfg (cfg.opcode c)) (State.Shows cfg (p.obey cfg c [])) := by
  rintro s t ⟨rfl, rfl, hi⟩ h
  obtain ⟨-, rfl⟩ := transfer_done h
  have hexp : s.cfg.expected c = 0 := by
    simp only [unaccompanied, List.mem_cons, List.not_mem_nil, or_false] at hc
    rcases hc with rfl | rfl | rfl | rfl <;> rfl
  exact ⟨afterTransfer_cfg _ _ s, (sendCommand_panel _ s).trans (commandByte_obey hwf hc hi _),
    obey_incomplete (l := []) hwf hexp.symm _⟩

theorem leads_frame_shows {cfg : Cfg} (hwf : cfg.wf) {c : WireCmd} {l : List Byte} (hl : l ≠ [])
    (hlen : l.length = cfg.expected c) (p : Panel) :
    Leads (State.Shows cfg p) (sendCommandActs cfg (cfg.opcode c) ++ sendData8Acts cfg l)
      (State.Shows cfg (p.obey cfg c l)) := by
  rintro s t ⟨rfl, rfl, hi⟩ h
  cases frame_done h
  exact ⟨afterFrame_cfg _ _ s, afterFrame_obey hwf hl hlen hi, obey_incomplete hwf hlen _⟩

/-- The actions of which the panel sees nothing (R131). -/
def Act.silent : Act → Bool
  | .pin _ _ => false
  | .width _ => true
  | .delay _ => true
  | .write _ => false
  | .screen _ => true
  | .phase _ => true

theorem leads_silent_shows {cfg : Cfg} {p : Panel} {l : List Act} (hl : ∀ a ∈ l, a.silent = true) :
    Leads (State.Shows cfg p) l (State.Shows cfg p) := by
  refine Leads.of_mem fun a ha s t hs hst => ?_
  have hsilent := hl a ha
  cases runAct_result hst with
  | width | delay | screen | phase => exact hs
  | pin | sent | lost => cases hsilent

theorem leads_window_shows {cfg : Cfg} (hwf : cfg.wf) (left right top bottom : Int) (p : Panel) :
    Leads (State.Shows cfg p) (setWindowActs cfg left right top bottom)
      (State.Shows cfg (((p.obey cfg .caset (coordParams left right)).obey cfg .paset
        (coordParams top bottom)).obey cfg .ramwr [])) :=
  ((leads_frame_shows hwf (c := .caset) (rangeParams_ne_nil _ _) rfl p).append
    (leads_frame_shows hwf (c := .paset) (rangeParams_ne_nil _ _) rfl _)).append
    (leads_command_shows hwf (c := .ramwr) (by decide) _)

/-! ## The panel after the nine steps -/

/-- The panel after step 4 (R159), from the panel before it. -/
def Panel.oriented (cfg : Cfg) (o : Orientation) (p : Panel) : Panel :=
  (((p.obey cfg .madctl [orientByte cfg o]).obey cfg .caset
    (coordParams 0 ((screenWidth o : Int) - 1))).obey cfg .paset
    (coordParams 0 ((screenHeight o : Int) - 1))).obey cfg .ramwr []

/-- The panel after step 6 (R161), from the panel before it. -/
def Panel.configured (cfg : Cfg) (p : Panel) : Panel :=
  (((((p.obey cfg .frmctr cfg.payFrmctr).obey cfg .gamset cfg.payGamset).obey cfg .caset
    cfg.payCasetDefault).obey cfg .paset cfg.payPasetDefault).obey cfg .etmod cfg.payEtmod).obey cfg
    .dfunctr cfg.payDfunctr

/-- The panel after CONSTRUCT (R169), from the panel a software reset leaves. -/
def Panel.constructed (cfg : Cfg) (o : Orientation) (p : Panel) : Panel :=
  ((((((p.obey cfg .dispoff []).oriented cfg o).obey cfg .pixset cfg.payPixset).configured cfg).obey cfg
    .slpout []).obey cfg .dispon []).obey cfg .ramwr []

/-- The software reset leaves the panel at its reset values, whatever it was (R137, R157). -/
theorem leads_swreset {cfg : Cfg} (hwf : cfg.wf) :
    Leads (fun s => s.cfg = cfg) (initStep2 cfg) (fun s => ∃ n, s.Shows cfg (Panel.reset n)) := by
  have hcommand : Leads (fun s => s.cfg = cfg) (sendCommandActs cfg (cfg.opcode .swreset))
      (fun s => ∃ n, s.Shows cfg (Panel.reset n)) := by
    rintro s t rfl h
    obtain ⟨-, rfl⟩ := transfer_done h
    refine ⟨s.trace.length + 1, afterTransfer_cfg _ _ s, (sendCommand_panel _ s).trans ?_,
      incomplete_of_par_nil _ rfl⟩
    rw [Panel.commandByte, command?_opcode s.cfg hwf.nodup]
  refine hcommand.append fun s t hs h => ?_
  obtain ⟨n, hn⟩ := hs
  exact ⟨n, leads_silent_shows (by simp [Act.silent]) s t hn h⟩

theorem leads_step4_shows {cfg : Cfg} (hwf : cfg.wf) (o : Orientation) (p : Panel) :
    Leads (State.Shows cfg p) (initStep4 cfg o) (State.Shows cfg (p.oriented cfg o)) :=
  ((leads_silent_shows (l := [.screen o]) (by simp [Act.silent])).append
    ((leads_frame_shows hwf (c := .madctl) (List.cons_ne_nil _ _) rfl p).append
      (leads_window_shows hwf _ _ _ _ _))).append (leads_silent_shows (by simp [Act.silent]))

theorem leads_step6_shows {cfg : Cfg} (hwf : cfg.wf) (p : Panel) :
    Leads (State.Shows cfg p) (initStep6 cfg) (State.Shows cfg (p.configured cfg)) := by
  obtain ⟨-, -, ⟨-, hfrmctr, hgamset, hetmod, hdfunctr⟩, ⟨hcaset, hpaset⟩, -⟩ := id hwf
  exact ((((((leads_frame_shows hwf (c := .frmctr) hfrmctr rfl p).append
    (leads_frame_shows hwf (c := .gamset) hgamset rfl _)).append
    (leads_frame_shows hwf (c := .caset) (by rintro h; simp [h] at hcaset) hcaset _)).append
    (leads_frame_shows hwf (c := .paset) (by rintro h; simp [h] at hpaset) hpaset _)).append
    (leads_frame_shows hwf (c := .etmod) hetmod rfl _)).append
    (leads_frame_shows hwf (c := .dfunctr) hdfunctr rfl _)).append (leads_silent_shows (by simp [Act.silent]))

/-- The steps after the software reset. -/
theorem leads_steps_shows {cfg : Cfg} (hwf : cfg.wf) (o : Orientation) (p : Panel) :
    Leads (State.Shows cfg p)
      (initStep3 cfg ++ initStep4 cfg o ++ initStep5 cfg ++ initStep6 cfg ++ initStep7 cfg ++
        initStep8 cfg ++ initStep9 cfg)
      (State.Shows cfg (p.constructed cfg o)) := by
  have hcommand {c : WireCmd} (hc : c ∈ unaccompanied) {l : List Act}
      (hl : ∀ a ∈ l, a.silent = true) (p : Panel) :
      Leads (State.Shows cfg p) (sendCommandActs cfg (cfg.opcode c) ++ l)
        (State.Shows cfg (p.obey cfg c [])) :=
    (leads_command_shows hwf hc p).append (leads_silent_shows hl)
  have h5 (p : Panel) :
      Leads (State.Shows cfg p) (initStep5 cfg) (State.Shows cfg (p.obey cfg .pixset cfg.payPixset)) :=
    (leads_frame_shows hwf (c := .pixset) hwf.pixset rfl p).append (leads_silent_shows (by simp [Act.silent]))
  exact ((((((hcommand (c := .dispoff) (by decide) (by simp [Act.silent]) p).append
    (leads_step4_shows hwf o _)).append (h5 _)).append (leads_step6_shows hwf _)).append
    (hcommand (c := .slpout) (by decide) (by simp [Act.silent]) _)).append
    (hcommand (c := .dispon) (by decide) (by simp [Act.silent]) _)).append
    (hcommand (c := .ramwr) (by decide) (by simp [Act.silent]) _)

/-- CONSTRUCT leaves the same panel whatever it was, but for the free values of the reset. -/
theorem initActs_panel {cfg : Cfg} (hwf : cfg.wf) (o : Orientation) :
    Leads (fun s => s.cfg = cfg) (initActs cfg o)
      (fun s => ∃ n, s.panel = (Panel.reset n).constructed cfg o) := by
  have hsplit : initActs cfg o = initStep1 cfg ++ initStep2 cfg ++
      (initStep3 cfg ++ initStep4 cfg o ++ initStep5 cfg ++ initStep6 cfg ++ initStep7 cfg ++
        initStep8 cfg ++ initStep9 cfg) := by
    simp only [initActs, List.append_assoc]
  rw [hsplit]
  refine ((leads_cfg cfg _).append (leads_swreset hwf)).append fun s t hs h => ?_
  obtain ⟨n, hn⟩ := hs
  obtain ⟨-, hpanel, -⟩ := leads_steps_shows hwf o _ s t hn h
  exact ⟨n, hpanel⟩

/-- `P.other` after CONSTRUCT holds the four configuration payloads (R169). -/
theorem constructed_other {cfg : Cfg} (hwf : cfg.wf) (o : Orientation) (n : Nat) :
    otherGet ((Panel.reset n).constructed cfg o).other cfg.opcFrmctr = some cfg.payFrmctr ∧
    otherGet ((Panel.reset n).constructed cfg o).other cfg.opcGamset = some cfg.payGamset ∧
    otherGet ((Panel.reset n).constructed cfg o).other cfg.opcEtmod = some cfg.payEtmod ∧
    otherGet ((Panel.reset n).constructed cfg o).other cfg.opcDfunctr = some cfg.payDfunctr := by
  have hother : ((Panel.reset n).constructed cfg o).other =
      otherPut (otherPut (otherPut (otherPut [] cfg.opcFrmctr cfg.payFrmctr) cfg.opcGamset cfg.payGamset)
        cfg.opcEtmod cfg.payEtmod) cfg.opcDfunctr cfg.payDfunctr := rfl
  have hne {c d : WireCmd} (h : c ≠ d) : cfg.opcode c ≠ cfg.opcode d :=
    fun e => h (opcode_injective hwf.nodup e)
  have hfg : cfg.opcFrmctr ≠ cfg.opcGamset := hne (c := .frmctr) (d := .gamset) (by simp)
  have hfe : cfg.opcFrmctr ≠ cfg.opcEtmod := hne (c := .frmctr) (d := .etmod) (by simp)
  have hfd : cfg.opcFrmctr ≠ cfg.opcDfunctr := hne (c := .frmctr) (d := .dfunctr) (by simp)
  have hge : cfg.opcGamset ≠ cfg.opcEtmod := hne (c := .gamset) (d := .etmod) (by simp)
  have hgd : cfg.opcGamset ≠ cfg.opcDfunctr := hne (c := .gamset) (d := .dfunctr) (by simp)
  have hed : cfg.opcEtmod ≠ cfg.opcDfunctr := hne (c := .etmod) (d := .dfunctr) (by simp)
  simp [hother, other_get_put_same, other_get_put_other, hfg, hfe, hfd, hge, hgd, hed]

/-! ## The engine after the nine steps -/

/-- The state with everything blanked that the wire, a width event, a delay or a phase changes. -/
def State.bare (s : State) : State := { s.unwired with phase := .p0 }

theorem leads_bare (r : State) {l : List Act} (hl : ∀ a ∈ l, a.plain = true ∨ ∃ p, a = .phase p) :
    Leads (fun s => s.bare = r) l (fun s => s.bare = r) := by
  refine Leads.of_mem fun a ha s t hs hst => Eq.trans ?_ hs
  rcases hl a ha with hplain | ⟨p, rfl⟩
  · have hone : runActs [a] s = runAct a s := by
      rw [runActs_cons]
      cases runAct a s <;> rfl
    have hkept := runActs_unwired (l := [a]) (by simpa using hplain) (hone ▸ hst)
    exact congrArg (fun s => { s with phase := .p0 }) hkept
  · cases runAct_result hst
    rfl

theorem initActs_bare (cfg : Cfg) (o : Orientation) (r : State) :
    Leads (fun s => s.bare = r) (initActs cfg o)
      (fun s => s.bare = setScreen o { r with rst := .driven .high }) := by
  have h1 : Leads (fun s => s.bare = r) (initStep1 cfg)
      (fun s => s.bare = { r with rst := .driven .high }) := by
    rintro s t rfl h
    cases h
    rfl
  have hscreen (r : State) : Leads (fun s => s.bare = r) [.screen o] (fun s => s.bare = setScreen o r) := by
    rintro s t rfl h
    cases h
    rfl
  have h4 (r : State) :
      Leads (fun s => s.bare = r) (initStep4 cfg o) (fun s => s.bare = setScreen o r) := by
    obtain ⟨l, hl, hblocks⟩ := orientActs_blocks cfg o
    rw [initStep4, hl]
    exact ((hscreen r).append (leads_bare _ fun a ha => .inl (hblocks.plain a ha))).append
      (leads_bare _ (by simp))
  have h5 (r : State) := leads_bare r (l := initStep5 cfg)
    (by simp [initStep5, sendCommandActs, sendData8Acts, Act.plain])
  have h6 (r : State) := leads_bare r (l := initStep6 cfg)
    (by simp [initStep6, sendCommandActs, sendData8Acts, Act.plain])
  exact (((((((h1.append (leads_bare _ (by simp [initStep2, sendCommandActs, Act.plain]))).append
    (leads_bare _ (by simp [initStep3, sendCommandActs, Act.plain]))).append (h4 _)).append
    (h5 _)).append (h6 _)).append (leads_bare _ (by simp [initStep7, sendCommandActs, Act.plain]))).append
    (leads_bare _ (by simp [initStep8, sendCommandActs, Act.plain]))).append
    (leads_bare _ (by simp [initStep9, sendCommandActs, Act.plain]))

/-- The last batch of CONSTRUCT is a command byte (R164). -/
theorem initActs_dc (cfg : Cfg) (o : Orientation) :
    Leads (fun _ => True) (initActs cfg o) (fun s => s.dc = .driven cfg.dcCmdLevel) := by
  have hlast : Leads (fun _ => True) (initStep9 cfg) (fun s => s.dc = .driven cfg.dcCmdLevel) := by
    intro s t _ h
    obtain ⟨u, hu, ht⟩ := runActs_append_done_iff.1 h
    obtain ⟨-, rfl⟩ := transfer_done hu
    cases ht
    rfl
  exact (leads_true _ _).append hlast

/-- What CONSTRUCT leaves of the engine (R169). -/
theorem constructed_engine {s u : State} {o : Orientation} (hb : s.busy = false)
    (hrun : runActs (initActs s.cfg o) (s.constructing o) = .done u)
    (hwrote : (s.constructing o).Wrote (constructEvents s.cfg o) u) :
    answer .ok 0 u = { s with
      phase := .p9, width := screenWidth o, height := screenHeight o, orient := o
      dc := .driven s.cfg.dcCmdLevel, rst := .driven .high, ctor := ⟨s.ctorPort, o⟩
      xfer := s.xfer + 26, trace := u.trace, panel := u.panel, resp := some ⟨.ok, 0⟩ } := by
  have hu : u = { u.bare with phase := u.phase, busWidth := u.busWidth, dc := u.dc, xfer := u.xfer
                              trace := u.trace, panel := u.panel } := rfl
  obtain ⟨-, hxfer, -⟩ := hwrote
  rw [constructEvents_busWrites] at hxfer
  rw [initActs_bare s.cfg o _ _ _ rfl hrun, initActs_phase s.cfg o _ _ trivial hrun,
    initActs_busWidth hrun, initActs_dc s.cfg o _ _ trivial hrun, hxfer] at hu
  refine (congrArg (answer .ok 0) hu).trans ?_
  simp [answer, State.bare, State.unwired, setScreen, State.constructing, hb]

/-- Settles O31: the frame of the engine, and the panel command by command. -/
theorem constructLeavesReadyState : Obligations.ConstructLeavesReadyState := by
  intro s o bus hwf hb hphase hw hbus hvalid hok
  obtain ⟨u, hrun, hwrote⟩ := runActs_init hw hok o
  have hengine := constructed_engine hb hrun hwrote
  have hwidth : u.width = screenWidth o := congrArg State.width hengine
  have hheight : u.height = screenHeight o := congrArg State.height hengine
  obtain ⟨n, hpanel⟩ := initActs_panel hwf o (s.constructing o) u rfl hrun
  refine ⟨answer .ok 0 u, construct_completes hb hphase hbus hvalid hrun, ?_, ?_, ?_⟩
  · rw [answer_width, answer_height, hwidth, hheight]
    exact hengine
  · rw [answer_width, answer_height, hwidth, hheight]
    cases o <;> rfl
  · obtain ⟨hfrmctr, hgamset, hetmod, hdfunctr⟩ := constructed_other hwf o n
    have hpixel := pixel_of_fm_nil (s := answer .ok 0 u) (congrArg Panel.fm hpanel)
    rw [answer_panel, hpanel]
    exact ⟨rfl, rfl, rfl, rfl, rfl, rfl, rfl, rfl, rfl, rfl, rfl, rfl, rfl, rfl, rfl, hfrmctr, hgamset,
      hetmod, hdfunctr, hpixel⟩

end Sys2Proof.Machine
end

section
/-! Orientation and backlight (spec 44): the run of `orient` (R175, R177), what it leaves on the panel
(R178), and the level of the backlight line (R180). -/

namespace Sys2Proof.Machine

/-! ## Orientation -/

/-- The state after a successful `orient(o)` (R175). -/
def afterOrient (o : Orientation) (s : State) : State :=
  afterWindow 0 ((screenWidth o : Int) - 1) 0 ((screenHeight o : Int) - 1)
    (afterFrame s.cfg.opcMadctl [orientByte s.cfg o] (setScreen o s))

/-- The fourteen events of `orient(o)` (R175). -/
def orientEvents (cfg : Cfg) (o : Orientation) : List Event :=
  cmdEvents cfg cfg.opcMadctl ++ dataEvents cfg [orientByte cfg o] ++
    windowEvents cfg 0 ((screenWidth o : Int) - 1) 0 ((screenHeight o : Int) - 1)

theorem orientEvents_busWrites (cfg : Cfg) (o : Orientation) : busWrites (orientEvents cfg o) = 7 := rfl

theorem runActs_orient {s : State} (hw : s.busWidth = .w8) (hok : s.writesOk 7) (o : Orientation) :
    runActs (orientActs s.cfg o) s = .done (afterOrient o s) := by
  have hok' : (setScreen o s).writesOk 7 := hok
  have hframe := runActs_frame (s := setScreen o s) (op := s.cfg.opcMadctl)
    (l := [orientByte s.cfg o]) hw (hok'.mono (by omega))
  have hscreen : runActs (.screen o :: (sendCommandActs s.cfg s.cfg.opcMadctl ++
      sendData8Acts s.cfg [orientByte s.cfg o])) s =
      .done (afterFrame s.cfg.opcMadctl [orientByte s.cfg o] (setScreen o s)) := hframe
  have hwindow := runActs_setWindow 0 ((screenWidth o : Int) - 1) 0 ((screenHeight o : Int) - 1)
    ((afterFrame_busWidth s.cfg.opcMadctl [orientByte s.cfg o] (setScreen o s)).trans hw)
    (hok'.afterFrame _ _)
  rw [afterFrame_cfg, setScreen_cfg] at hwindow
  rw [orientActs, ← List.cons_append, runActs_append_done hscreen]
  exact hwindow

@[simp] theorem afterOrient_resp (o : Orientation) (s : State) :
    (afterOrient o s).resp = s.resp := by
  simp [afterOrient]

@[simp] theorem afterOrient_width (o : Orientation) (s : State) :
    (afterOrient o s).width = screenWidth o := by
  simp [afterOrient, afterFrame]

@[simp] theorem afterOrient_height (o : Orientation) (s : State) :
    (afterOrient o s).height = screenHeight o := by
  simp [afterOrient, afterFrame]

/-- Once the screen is set, `orient` only talks to the panel. -/
theorem afterOrient_sent (o : Orientation) (s : State) :
    (setScreen o s).sent (afterOrient o s) (orientEvents s.cfg o) s.cfg.dcCmdLevel := by
  have hwindow := afterWindow_sent 0 ((screenWidth o : Int) - 1) 0 ((screenHeight o : Int) - 1)
    (afterFrame s.cfg.opcMadctl [orientByte s.cfg o] (setScreen o s))
  rw [afterFrame_cfg, setScreen_cfg] at hwindow
  exact (afterFrame_sent _ _ (setScreen o s)).append hwindow

/-- A legal screen's last column and row have the same 16 bits as integers and as naturals (R10). -/
theorem wireCoord_screen (o : Orientation) :
    wireCoord ((screenWidth o : Int) - 1) = BitVec.ofNat 16 (screenWidth o - 1) ∧
    wireCoord ((screenHeight o : Int) - 1) = BitVec.ofNat 16 (screenHeight o - 1) := by
  cases o <;> decide

/-- The MADCTL frame sets the register byte and forgets every pixel, the window arms the panel (R178). -/
theorem afterOrient_panel {s : State} (hwf : s.cfg.wf) (o : Orientation) :
    (afterOrient o s).panel =
      { s.panel with
        undef := s.panel.undef || s.panel.incomplete s.cfg, cmd := some s.cfg.opcRamwr, par := []
        half := none, armed := true, madctl := .of (orientByte s.cfg o), fm := []
        sc := .of 0, ec := .of (BitVec.ofNat 16 (screenWidth o - 1))
        sp := .of 0, ep := .of (BitVec.ofNat 16 (screenHeight o - 1)), cx := .of 0, cy := .of 0 } := by
  have hbyte : [orientByte s.cfg o] ≠ [] := List.cons_ne_nil _ _
  have hmadctl := afterFrame_panel (s := setScreen o s) hwf (c := .madctl) hbyte rfl
  have hfull := afterFrame_incomplete (s := setScreen o s) hwf (c := .madctl) hbyte rfl
  have hwindow := afterWindow_panel 0 ((screenWidth o : Int) - 1) 0 ((screenHeight o : Int) - 1)
    (s := afterFrame s.cfg.opcMadctl [orientByte s.cfg o] (setScreen o s)) (by simpa using hwf)
  obtain ⟨hlastX, hlastY⟩ := wireCoord_screen o
  have hzero : wireCoord 0 = 0 := rfl
  simp only [Cfg.opcode, setScreen_cfg, setScreen_panel] at hmadctl hfull
  rw [afterFrame_cfg, setScreen_cfg, hfull, hmadctl, hlastX, hlastY, hzero, Bool.or_false] at hwindow
  exact hwindow

theorem afterOrient_oriented {s : State} (hwf : s.cfg.wf) (o : Orientation) :
    s.oriented (afterOrient o s) o := by
  obtain ⟨htrace, hxfer, hdc, hframe⟩ := afterOrient_sent o s
  refine ⟨?_, ?_, ?_⟩
  · rw [orientEvents_busWrites] at hxfer
    rw [State.onlyWire, htrace, hxfer, hdc] at hframe
    rw [afterOrient_width, afterOrient_height]
    exact hframe
  · rw [afterOrient_width, afterOrient_height]
    cases o <;> rfl
  · rw [afterOrient_width, afterOrient_height]
    exact afterOrient_panel hwf o

/-- The lock taken before and the answer given after leave what `orient` does as it is (R177, R238). -/
theorem State.oriented.of_locked {s u : State} {o : Orientation}
    (h : State.oriented { s with busy := true } u o) (hb : s.busy = false) (st : Status) (r : Word16) :
    s.oriented (answer st r u) o := by
  obtain ⟨hengine, hsize, hpanel⟩ := h
  refine ⟨(congrArg (answer st r) hengine).trans ?_, hsize, hpanel⟩
  simp [answer, hb]

/-- Settles O33: the MADCTL frame and the window on the screen already set; SET_ORIENTATION runs the same
actions under the lock. -/
theorem orientationChangeCompletes : Obligations.OrientationChangeCompletes := by
  intro s o hwf hw hok
  refine ⟨⟨afterOrient o s, ?_, afterOrient_oriented hwf o, afterOrient_resp o s⟩, fun hs => ?_⟩
  · have hexec : exec (.orient o) s = procedure (orientActs s.cfg o) s := rfl
    rw [hexec, procedure, runActs_orient hw hok]
  · obtain ⟨hb, -, -⟩ := id hs
    have hrun := runActs_orient (s := { s with busy := true }) hw hok o
    have horiented := afterOrient_oriented (s := { s with busy := true }) hwf o
    have hexec : exec (.setOrientation o) s = .next (answer .ok 0 (afterOrient o { s with busy := true })) :=
      operation_completes (plan := fun s => (orientActs s.cfg o, .ok)) hs hrun
    exact ⟨_, hexec, horiented.of_locked hb _ _, rfl⟩

/-! ## Backlight -/

/-- The two levels of the backlight line differ (R180). -/
theorem backlightLevel_eq_iff (cfg : Cfg) (on : Bool) :
    on = true ↔ backlightLevel cfg on = cfg.blOnLevel := by
  cases on
  · cases h : cfg.blOnLevel <;> simp [backlightLevel, h]
  · simp [backlightLevel]

/-- Settles O34, by phase. -/
theorem setBacklightCompletes : Obligations.SetBacklightCompletes := by
  intro s on hb
  have hexec : exec (.setBacklight on) s = execSetBacklight on s := rfl
  rw [hexec, execSetBacklight, if_neg (by simp [hb])]
  refine ⟨fun hphase => ⟨backlightLevel s.cfg on, backlightLevel_eq_iff s.cfg on, ?_⟩, fun hphase => ?_⟩
  · rw [if_pos hphase, answer_of_idle (by simpa using hb)]
    rfl
  · rw [if_neg hphase, answer_of_idle hb]

end Sys2Proof.Machine
end

section
/-! The rendering primitives on the wire (41 R129, 45 R185 to R198): the state after a window and its
pixels, the events it was reached by, and the operation that runs these actions. -/

namespace Sys2Proof.Machine

/-! ## Events sent while only the wire changes -/

/-- From `s` to `t` exactly the events `es` were emitted, and nothing but the wire changed. Unlike
`State.sent` it also holds of no event at all, which leaves the mode-select line as it was. -/
def State.Emitted (s t : State) (es : List Event) : Prop :=
  t.trace = s.trace ++ es ∧ t.xfer = s.xfer + busWrites es ∧ s.onlyWire t

theorem State.Emitted.nil (s : State) : s.Emitted s [] := ⟨(List.append_nil _).symm, rfl, rfl⟩

theorem State.Emitted.append {s t u : State} {es es' : List Event} (h1 : s.Emitted t es)
    (h2 : t.Emitted u es') : s.Emitted u (es ++ es') := by
  obtain ⟨htrace, hxfer, hwire⟩ := h1
  obtain ⟨htrace', hxfer', hwire'⟩ := h2
  refine ⟨by rw [htrace', htrace, List.append_assoc],
    by rw [hxfer', hxfer, busWrites_append, Nat.add_assoc], ?_⟩
  unfold State.onlyWire at *
  rw [hwire] at hwire'
  exact hwire'

theorem State.sent.onlyWire {s t : State} {es : List Event} {level : Level} (h : s.sent t es level) :
    s.onlyWire t := by
  obtain ⟨-, -, -, hwire⟩ := h
  exact hwire

theorem State.sent.emitted {s t : State} {es : List Event} {level : Level} (h : s.sent t es level) :
    s.Emitted t es := by
  obtain ⟨htrace, hxfer, -, hwire⟩ := h
  exact ⟨htrace, hxfer, hwire⟩

theorem State.onlyWire.cfg {s t : State} (h : s.onlyWire t) : t.cfg = s.cfg :=
  (congrArg State.cfg h :)

theorem State.onlyWire.busWidth {s t : State} (h : s.onlyWire t) : t.busWidth = s.busWidth :=
  (congrArg State.busWidth h :)

theorem State.onlyWire.width {s t : State} (h : s.onlyWire t) : t.width = s.width :=
  (congrArg State.width h :)

theorem State.onlyWire.height {s t : State} (h : s.onlyWire t) : t.height = s.height :=
  (congrArg State.height h :)

/-- The oracle is the same after the events as before, so writes beyond theirs are still granted. -/
theorem State.Emitted.writesOk {s t : State} {es : List Event} {n : Nat} (h : s.Emitted t es)
    (hok : s.writesOk (busWrites es + n)) : t.writesOk n := by
  obtain ⟨-, hxfer, hwire⟩ := h
  have hfails : t.busFails = s.busFails := (congrArg State.busFails hwire :)
  intro k hlo hhi
  exact (busOk_congr hfails k).trans (hok k (by omega) (by omega))

/-- The lock taken before and the answer given after leave what was sent as it is (R238). -/
theorem State.onlyWire.of_locked {s u : State} (h : State.onlyWire { s with busy := true } u)
    (hb : s.busy = false) (st : Status) (r : Word16) : s.onlyWire (answer st r u) := by
  refine (congrArg (answer st r) h).trans ?_
  simp [answer, hb]

theorem State.sent.of_locked {s u : State} {es : List Event} {level : Level}
    (h : State.sent { s with busy := true } u es level) (hb : s.busy = false) (st : Status)
    (r : Word16) : s.sent (answer st r u) es level := by
  obtain ⟨htrace, hxfer, hdc, hwire⟩ := h
  exact ⟨htrace, hxfer, hdc, hwire.of_locked hb st r⟩

/-! ## Pixels in the width bracket -/

theorem afterWords_sent {batches : List (List Word16)} (hne : batches ≠ []) (s : State) :
    s.sent (afterWords batches s) (batches.flatMap (wordEvents s.cfg)) s.cfg.dcDataLevel := by
  induction batches generalizing s with
  | nil => exact absurd rfl hne
  | cons l batches ih =>
    have hhead := afterTransfer_sent s.cfg.dcDataLevel (.words l) s
    rw [List.flatMap_cons]
    cases batches with
    | nil => simpa [wordEvents, batchEvent, afterWords] using hhead
    | cons l' batches =>
      have hrest := ih (List.cons_ne_nil _ _) (afterTransfer s.cfg.dcDataLevel (.words l) s)
      rw [afterTransfer_cfg] at hrest
      exact hhead.append hrest

theorem afterWords_cfg (batches : List (List Word16)) (s : State) : (afterWords batches s).cfg = s.cfg := by
  induction batches generalizing s with
  | nil => rfl
  | cons l batches ih => rw [afterWords, ih, afterTransfer_cfg]

@[simp] theorem afterBracket_cfg (batches : List (List Word16)) (s : State) :
    (afterBracket batches s).cfg = s.cfg :=
  afterWords_cfg batches (setWidth .w16 s)

/-- The bracket ends at the transfer width it began at (R129). -/
theorem afterBracket_sent {s : State} (hw : s.busWidth = .w8) {batches : List (List Word16)}
    (hne : batches ≠ []) :
    s.sent (afterBracket batches s) (bracketEvents s.cfg batches) s.cfg.dcDataLevel := by
  obtain ⟨-, hxfer, hdc, hwire⟩ := afterWords_sent hne (setWidth .w16 s)
  refine ⟨afterBracket_trace _ _, hxfer.trans ?_, hdc, (congrArg (setWidth .w8) hwire).trans ?_⟩
  · simp [bracketEvents, busWrites_append, busWrites]
  · simp [afterBracket, setWidth, emit, State.drive, Panel.receive, hw]

/-! ## A window and its pixels -/

section Window

variable (left right top bottom : Int) (batches : List (List Word16))

/-- The state after a window and its pixels: DRAW_PIXEL and FLUSH (R185, R194). -/
def afterBlit (s : State) : State := afterBracket batches (afterWindow left right top bottom s)

/-- The state after a window, which arms the panel, and the memory-write command sent once more
(R188). -/
def afterRearm (s : State) : State :=
  afterTransfer s.cfg.dcCmdLevel (.bytes [s.cfg.opcRamwr]) (afterWindow left right top bottom s)

/-- The state after the actions of FILL_RECT (R187 to R190). -/
def afterFill (s : State) : State := afterBracket batches (afterRearm left right top bottom s)

variable {batches} {s : State}

theorem runActs_blit (hw : s.busWidth = .w8) (hok : s.writesOk (batches.length + 5)) :
    runActs (setWindowActs s.cfg left right top bottom ++ bracketActs s.cfg batches) s =
      .done (afterBlit left right top bottom batches s) := by
  have hbracket := runActs_bracket (hok.afterWindow left right top bottom)
  rw [afterWindow_cfg] at hbracket
  rw [runActs_append_done (runActs_setWindow _ _ _ _ hw (hok.mono (by omega)))]
  exact hbracket

theorem afterBlit_sent (hw : s.busWidth = .w8) (hne : batches ≠ []) :
    s.sent (afterBlit left right top bottom batches s)
      (windowEvents s.cfg left right top bottom ++ bracketEvents s.cfg batches) s.cfg.dcDataLevel := by
  have hbracket := afterBracket_sent ((afterWindow_busWidth left right top bottom s).trans hw) hne
  rw [afterWindow_cfg] at hbracket
  exact (afterWindow_sent _ _ _ _ s).append hbracket

theorem afterRearm_sent (s : State) :
    s.sent (afterRearm left right top bottom s)
      (windowEvents s.cfg left right top bottom ++ cmdEvents s.cfg s.cfg.opcRamwr) s.cfg.dcCmdLevel :=
  (afterWindow_sent _ _ _ _ s).append (afterTransfer_sent _ _ _)

theorem runActs_rearm (hw : s.busWidth = .w8) (hok : s.writesOk 6) :
    runActs (setWindowActs s.cfg left right top bottom ++ sendCommandActs s.cfg s.cfg.opcRamwr) s =
      .done (afterRearm left right top bottom s) := by
  rw [runActs_append_done (runActs_setWindow _ _ _ _ hw (hok.mono (by omega)))]
  exact runActs_transfer ((afterWindow_busWidth _ _ _ _ s).trans hw)
    (State.writesOk.afterWindow (n := 1) _ _ _ _ hok).head

theorem runActs_fill (hw : s.busWidth = .w8) (hok : s.writesOk (batches.length + 6)) :
    runActs (setWindowActs s.cfg left right top bottom ++ sendCommandActs s.cfg s.cfg.opcRamwr ++
      bracketActs s.cfg batches) s = .done (afterFill left right top bottom batches s) := by
  have hsent := afterRearm_sent left right top bottom s
  have hbracket := runActs_bracket (batches := batches)
    (hsent.emitted.writesOk (n := batches.length) (hok.mono (Nat.le_of_eq (Nat.add_comm _ _))))
  rw [hsent.onlyWire.cfg] at hbracket
  rw [runActs_append_done (runActs_rearm _ _ _ _ hw (hok.mono (by omega)))]
  exact hbracket

theorem afterFill_sent (hw : s.busWidth = .w8) (hne : batches ≠ []) :
    s.sent (afterFill left right top bottom batches s)
      (windowEvents s.cfg left right top bottom ++ cmdEvents s.cfg s.cfg.opcRamwr ++
        bracketEvents s.cfg batches) s.cfg.dcDataLevel := by
  have hrearm := afterRearm_sent left right top bottom s
  have hbracket := afterBracket_sent (hrearm.onlyWire.busWidth.trans hw) hne
  rw [hrearm.onlyWire.cfg] at hbracket
  exact hrearm.append hbracket

end Window

theorem afterPixel_sent {s : State} (hw : s.busWidth = .w8) (x y : Int) (c : Color565) :
    s.sent (afterPixel x y c s) (pixelEvents s.cfg x y c) s.cfg.dcDataLevel :=
  afterBlit_sent x x y y hw (List.cons_ne_nil _ _)

/-! ## Operations -/

/-- An operation in `P9` whose plan has no action answers with its status and changes nothing else. -/
theorem operation_empty {plan : State → List Act × Status} {s : State} {st : Status}
    (hb : s.busy = false) (hphase : s.phase = .p9) (hplan : plan s = ([], st)) :
    operation plan s = .next { s with resp := some ⟨st, 0⟩ } := by
  rw [operation, if_neg (by simp [hb]), if_pos hphase, hplan, ← answer_of_idle hb]
  rfl

/-- Outside `P9` an operation is refused (R236). -/
theorem operation_notReady {plan : State → List Act × Status} {s : State} (hb : s.busy = false)
    (hphase : s.phase ≠ .p9) : operation plan s = .next { s with resp := some ⟨.eNotReady, 0⟩ } := by
  rw [operation, if_neg (by simp [hb]), if_neg hphase, answer_of_idle hb]

/-! ## DRAW_PIXEL -/

theorem drawPixel_completes {s : State} (hs : s.ready) (hok : s.writesOk 6) (x y : Int)
    (c : Color565) :
    operation (fun s => (drawPixelActs s.cfg x y c, .ok)) s =
      .next (answer .ok 0 (afterPixel x y c { s with busy := true })) := by
  obtain ⟨-, -, hw⟩ := id hs
  exact operation_completes hs (runActs_drawPixel (s := { s with busy := true }) hw hok x y c)

/-- Settles O35: the actions come to their end whatever the coordinates; the Color888 form runs the same
operation on the converted colour. -/
theorem drawPixelCompletes : Obligations.DrawPixelCompletes := by
  intro s x y c k hs hok
  obtain ⟨hb, -, hw⟩ := id hs
  have hsent (c : Color565) := (afterPixel_sent (s := { s with busy := true }) hw x.toInt y.toInt
    c).of_locked hb .ok 0
  exact ⟨⟨_, drawPixel_completes hs hok _ _ c, hsent c, rfl⟩,
    _, drawPixel_completes hs hok _ _ (toColor565 k), hsent _, rfl⟩

/-! ## The batches of a rectangle -/

/-- The batches of a rectangle of `n` pixels, from its rows: all rows in one batch if `n` is even, else one
batch a row (R190, R194). -/
def rowBatches (n : Nat) (rows : List (List Word16)) : List (List Word16) :=
  if n % 2 = 0 then [rows.flatten] else rows

theorem rowBatches_ne_nil (n : Nat) {rows : List (List Word16)} (h : rows ≠ []) :
    rowBatches n rows ≠ [] := by
  unfold rowBatches
  split
  · exact List.cons_ne_nil _ _
  · exact h

theorem rowBatches_flatten (n : Nat) (rows : List (List Word16)) :
    (rowBatches n rows).flatten = rows.flatten := by
  unfold rowBatches
  split
  · simp
  · rfl

/-- The bus writes of `k` other transfers and the batches. -/
theorem rowBatches_writes (n k : Nat) (rows : List (List Word16)) :
    (rowBatches n rows).length + k = if n % 2 = 0 then k + 1 else k + rows.length := by
  unfold rowBatches
  split <;> exact Nat.add_comm _ _

/-! ## FILL_RECT -/

/-- The rows of a fill of `W` by `H` pixels. -/
def fillRows (W H : Nat) (c : Color565) : List (List Word16) := List.replicate H (List.replicate W c)

theorem fillRows_flatten (W H : Nat) (c : Color565) :
    (fillRows W H c).flatten = List.replicate (W * H) c := by
  rw [fillRows, List.flatten_replicate_replicate, Nat.mul_comm]

theorem rectBatches_eq (W H : Nat) (c : Color565) :
    rectBatches W H c = rowBatches (W * H) (fillRows W H c) := by
  rw [rectBatches, rowBatches, fillRows_flatten, fillRows]

theorem rectBatches_ne_nil {H : Nat} (hH : 0 < H) (W : Nat) (c : Color565) : rectBatches W H c ≠ [] := by
  rw [rectBatches_eq]
  exact rowBatches_ne_nil _ (List.ne_nil_of_length_pos (by simpa [fillRows] using hH))

theorem fillRectPlan_reversed {left right top bottom : Int} (h : right < left ∨ bottom < top)
    (c : Color565) (s : State) : fillRectPlan left right top bottom c s = ([], .eContract) :=
  if_pos (by omega)

theorem fillRectPlan_proper {left right top bottom : Int} {W H : Nat} (hW : W = right - left + 1)
    (hH : H = bottom - top + 1) (hW0 : 0 < W) (hH0 : 0 < H) (c : Color565) (s : State) :
    fillRectPlan left right top bottom c s =
      (setWindowActs s.cfg left right top bottom ++ sendCommandActs s.cfg s.cfg.opcRamwr ++
        bracketActs s.cfg (rectBatches W H c), .ok) := by
  simp only [fillRectPlan, ← hW, ← hH, Int.toNat_natCast]
  exact if_neg (by omega)

theorem fillRect_completes {s : State} (hs : s.ready) {left right top bottom : Int} {W H : Nat}
    (hW : W = right - left + 1) (hH : H = bottom - top + 1) (hW0 : 0 < W) (hH0 : 0 < H)
    (hok : s.writesOk (if W * H % 2 = 0 then 7 else 6 + H)) (c : Color565) :
    operation (fillRectPlan left right top bottom c) s =
      .next (answer .ok 0
        (afterFill left right top bottom (rectBatches W H c) { s with busy := true })) := by
  obtain ⟨-, -, hw⟩ := id hs
  have hplan := fillRectPlan_proper hW hH hW0 hH0 c s
  have hwrites : s.writesOk ((rectBatches W H c).length + 6) := by
    rw [rectBatches_eq, rowBatches_writes, fillRows, List.length_replicate]
    exact hok
  have hrun := runActs_fill (s := { s with busy := true }) left right top bottom hw hwrites
  rw [operation_completes hs (by rw [hplan]; exact hrun), hplan]

/-- Settles O38: the two tests of R187, and the run of the plan with the count of its writes. -/
theorem fillRectCompletes : Obligations.FillRectCompletes := by
  intro s l r t b c hs
  obtain ⟨hb, hphase, hw⟩ := id hs
  refine ⟨fun hrev => operation_empty hb hphase (fillRectPlan_reversed hrev c s),
    fun W H hW hH hW0 hH0 hok => ⟨_, fillRect_completes hs hW hH hW0 hH0 hok c, ?_, rfl⟩⟩
  exact (afterFill_sent (s := { s with busy := true }) _ _ _ _ hw
    (rectBatches_ne_nil hH0 W c)).of_locked hb _ _

/-! ## FLUSH -/

theorem flushPlan_noop {x y width height : Int} {s : State}
    (h : x < 0 ∨ y < 0 ∨ width ≤ 0 ∨ height ≤ 0 ∨ (s.width : Int) - x ≤ 0 ∨
      (s.height : Int) - y ≤ 0) :
    flushPlan x y width height s = ([], .ok) := by
  rw [flushPlan]
  split
  · rfl
  · exact if_pos (by unfold clampSize; omega)

theorem flushPlan_short {x y width height : Int} {s : State} (hx : 0 ≤ x) (hy : 0 ≤ y)
    (hw : 0 < width) (hh : 0 < height) (hxs : 0 < (s.width : Int) - x) (hys : 0 < (s.height : Int) - y)
    (hbuf : (s.buf.length : Int) < width * height) :
    flushPlan x y width height s = ([], .eContract) := by
  rw [flushPlan, if_neg (by omega)]
  exact (if_neg (by unfold clampSize; omega)).trans (if_pos hbuf)

/-- Settles O43: the tests of FLUSH in their order. -/
theorem flushEarlyReturns : Obligations.FlushEarlyReturns := by
  intro s x y w h hb
  refine ⟨fun hphase hnoop => operation_empty hb hphase (flushPlan_noop hnoop),
    fun hphase hshort => ?_, fun hphase => operation_notReady hb hphase⟩
  obtain ⟨hx, hy, hw, hh, hxs, hys, hbuf⟩ := hshort
  exact operation_empty hb hphase (flushPlan_short hx hy hw hh hxs hys hbuf)

/-- FLUSH with these operands draws: it is no no-op, its window clamped at the screen's edges is `w'` by
`h'`, and the buffer is long enough (R194, R195). -/
structure State.Flushes (s : State) (x y w h : Int) (w' h' : Nat) : Prop where
  column : 0 ≤ x
  row : 0 ≤ y
  width : 0 < w
  height : 0 < h
  clampedWidth : (w' : Int) = min w ((s.width : Int) - x)
  clampedHeight : (h' : Int) = min h ((s.height : Int) - y)
  someColumn : 0 < w'
  someRow : 0 < h'
  buffer : w * h ≤ (s.buf.length : Int)

/-- The rows of a blit of `w` by `h` pixels (R194). -/
def blitRows (buf : List Color565) (stride w h : Nat) : List (List Word16) :=
  (List.range h).map (blitRow buf stride w)

theorem flushPlan_draws {x y w h : Int} {s : State} {w' h' : Nat} (hf : s.Flushes x y w h w' h') :
    flushPlan x y w h s =
      (setWindowActs s.cfg x (x + w' - 1) y (y + h' - 1) ++
        bracketActs s.cfg (rowBatches (w' * h') (blitRows s.buf w.toNat w' h')), .ok) := by
  obtain ⟨hx, hy, hw, hh, hw', hh', hw0, hh0, hbuf⟩ := hf
  simp only [flushPlan, clampSize, ← hw', ← hh', Int.toNat_natCast]
  rw [if_neg (by omega), if_neg (by omega), if_neg (by omega)]
  rfl

/-- A request operand that is not negative is the same number with and without a sign (R101). -/
theorem toInt_eq_toNat_of_nonneg {v : Word16} (h : 0 ≤ v.toInt) : v.toInt = v.toNat := by
  have hlt := v.isLt
  rw [BitVec.toInt_eq_toNat_cond] at h ⊢
  split at h <;> omega

theorem flush_completes {x y w h : Word16} {s : State} {w' h' : Nat} (hs : s.ready)
    (hf : s.Flushes x.toInt y.toInt w.toInt h.toInt w' h')
    (hok : s.writesOk (if w' * h' % 2 = 0 then 6 else 5 + h')) :
    exec (.flush x y w h) s =
      .next (answer .ok 0 (afterBlit x.toInt (x.toInt + w' - 1) y.toInt (y.toInt + h' - 1)
        (rowBatches (w' * h') (blitRows s.buf w.toNat w' h')) { s with busy := true })) := by
  obtain ⟨-, -, hw8⟩ := id hs
  have hstride : w.toInt.toNat = w.toNat := by
    rw [toInt_eq_toNat_of_nonneg hf.width.le, Int.toNat_natCast]
  have hplan := flushPlan_draws hf
  rw [hstride] at hplan
  have hwrites :
      s.writesOk ((rowBatches (w' * h') (blitRows s.buf w.toNat w' h')).length + 5) := by
    rw [rowBatches_writes, blitRows, List.length_map, List.length_range]
    exact hok
  have hrun := runActs_blit (s := { s with busy := true }) x.toInt (x.toInt + w' - 1) y.toInt
    (y.toInt + h' - 1) hw8 hwrites
  have hexec : exec (.flush x y w h) s = operation (flushPlan x.toInt y.toInt w.toInt h.toInt) s := rfl
  rw [hexec, operation_completes hs (by rw [hplan]; exact hrun), hplan]

/-- Settles O44: the run of the plan, whose batches are those of the clamped window. -/
theorem flushCompletes : Obligations.FlushCompletes := by
  intro s x y w h w' h' hs hx hy hw hh hw' hh' hw0 hh0 hbuf hok
  obtain ⟨hb, -, hw8⟩ := id hs
  have hrows : blitRows s.buf w.toNat w' h' ≠ [] :=
    List.ne_nil_of_length_pos (by simpa [blitRows] using hh0)
  refine ⟨_, flush_completes hs ⟨hx, hy, hw, hh, hw', hh', hw0, hh0, hbuf⟩ hok, ?_, rfl⟩
  exact (afterBlit_sent (s := { s with busy := true }) _ _ _ _ hw8
    (rowBatches_ne_nil _ hrows)).of_locked hb _ _

end Sys2Proof.Machine
end

section
/-! The scan of DRAW_CIRCLE (45 R192), and its events. -/

namespace Sys2Proof.Machine

/-! ## The scan -/

theorem mem_intRange {lo hi v : Int} : v ∈ intRange lo hi ↔ lo ≤ v ∧ v ≤ hi := by
  simp only [intRange, List.mem_map, List.mem_range]
  constructor
  · rintro ⟨k, hk, rfl⟩
    omega
  · rintro ⟨hlo, hhi⟩
    exact ⟨(v - lo).toNat, by omega, by omega⟩

theorem intRange_ascending (lo hi : Int) : (intRange lo hi).Pairwise (· < ·) := by
  rw [intRange, List.pairwise_map]
  exact List.pairwise_lt_range.imp fun h => by omega

/-- A point of the disc is within `radius` of its centre on each axis. -/
theorem offset_le_of_inDisc {a b r : Int} (hr : 0 ≤ r) (h : a * a + b * b ≤ r * r) :
    -r ≤ a ∧ a ≤ r :=
  abs_le_of_sq_le_sq' (by nlinarith [mul_self_nonneg b]) hr

theorem mem_discPoints {x0 y0 radius x y : Int} :
    (x, y) ∈ discPoints x0 y0 radius ↔
      0 ≤ radius ∧ (x - x0) * (x - x0) + (y - y0) * (y - y0) ≤ radius * radius := by
  simp only [discPoints, List.mem_flatMap, List.mem_map, List.mem_filter, decide_eq_true_eq, mem_intRange,
    Prod.mk.injEq]
  constructor
  · rintro ⟨dx, ⟨hlo, hhi⟩, dy, ⟨-, hdisc⟩, rfl, rfl⟩
    exact ⟨by omega, by simpa using hdisc⟩
  · rintro ⟨hr, hdisc⟩
    exact ⟨x - x0, offset_le_of_inDisc hr hdisc, y - y0,
      ⟨offset_le_of_inDisc hr (by rwa [add_comm] at hdisc), hdisc⟩, by omega, by omega⟩

/-- The order of the scan: columns outer, rows inner, both ascending (R192). -/
def ScanBefore (p q : Int × Int) : Prop := p.1 < q.1 ∨ p.1 = q.1 ∧ p.2 < q.2

theorem discPoints_ascending (x0 y0 radius : Int) : (discPoints x0 y0 radius).Pairwise ScanBefore := by
  rw [discPoints, List.pairwise_flatMap]
  refine ⟨fun dx _ => ?_, (intRange_ascending _ _).imp fun {dx dx'} hdx p hp q hq => .inl ?_⟩
  · rw [List.pairwise_map]
    exact ((intRange_ascending _ _).filter _).imp fun h => .inr ⟨rfl, by omega⟩
  · simp only [List.mem_map] at hp hq
    obtain ⟨_, -, rfl⟩ := hp
    obtain ⟨_, -, rfl⟩ := hq
    simpa using hdx

/-- Settles O40: which points are scanned, and in which order. -/
theorem discScanOrder : Obligations.DiscScanOrder := fun x0 y0 radius =>
  ⟨fun _ _ => mem_discPoints, discPoints_ascending x0 y0 radius⟩

/-! ## The events -/

/-- The state after the actions of DRAW_PIXEL at each of a list of points (R192). -/
def afterPoints (points : List (Int × Int)) (c : Color565) (s : State) : State :=
  points.foldl (fun s p => afterPixel p.1 p.2 c s) s

theorem afterPoints_cons (p : Int × Int) (points : List (Int × Int)) (c : Color565) (s : State) :
    afterPoints (p :: points) c s = afterPoints points c (afterPixel p.1 p.2 c s) := by
  unfold afterPoints
  rw [List.foldl_cons]

theorem pointEvents_busWrites (cfg : Cfg) (points : List (Int × Int)) (c : Color565) :
    busWrites (points.flatMap fun p => pixelEvents cfg p.1 p.2 c) = 6 * points.length := by
  induction points with
  | nil => rfl
  | cons p points ih =>
    have hpixel : busWrites (pixelEvents cfg p.1 p.2 c) = 6 := rfl
    rw [List.flatMap_cons, busWrites_append, hpixel, ih, List.length_cons]
    omega

theorem afterPoints_emitted {s : State} (hw : s.busWidth = .w8) (points : List (Int × Int))
    (c : Color565) :
    s.Emitted (afterPoints points c s) (points.flatMap fun p => pixelEvents s.cfg p.1 p.2 c) := by
  induction points generalizing s with
  | nil => exact .nil s
  | cons p points ih =>
    have hpixel := afterPixel_sent hw p.1 p.2 c
    have hrest := ih (hpixel.onlyWire.busWidth.trans hw)
    rw [hpixel.onlyWire.cfg] at hrest
    rw [List.flatMap_cons, afterPoints_cons]
    exact hpixel.emitted.append hrest

theorem runActs_points {points : List (Int × Int)} {s : State} (hw : s.busWidth = .w8)
    (hok : s.writesOk (6 * points.length)) (c : Color565) :
    runActs (points.flatMap fun p => drawPixelActs s.cfg p.1 p.2 c) s =
      .done (afterPoints points c s) := by
  induction points generalizing s with
  | nil => rfl
  | cons p points ih =>
    rw [List.length_cons, Nat.mul_add_one, Nat.add_comm] at hok
    have hpixel := afterPixel_sent hw p.1 p.2 c
    have hrest := ih (hpixel.onlyWire.busWidth.trans hw) (hpixel.emitted.writesOk hok)
    rw [hpixel.onlyWire.cfg] at hrest
    rw [List.flatMap_cons, afterPoints_cons,
      runActs_append_done (runActs_drawPixel hw (hok.mono (Nat.le_add_right _ _)) _ _ c)]
    exact hrest

theorem drawCircle_completes {s : State} (hs : s.ready) {x0 y0 radius : Int}
    (hok : s.writesOk (6 * (discPoints x0 y0 radius).length)) (c : Color565) :
    operation (fun s => (drawCircleActs s.cfg x0 y0 radius c, .ok)) s =
      .next (answer .ok 0 (afterPoints (discPoints x0 y0 radius) c { s with busy := true })) := by
  obtain ⟨-, -, hw⟩ := id hs
  exact operation_completes hs (runActs_points (s := { s with busy := true }) hw hok c)

/-- Settles O41: the actions of DRAW_PIXEL point by point. -/
theorem drawCircleCompletes : Obligations.DrawCircleCompletes := by
  intro s x0 y0 radius c k hs hok
  obtain ⟨hb, -, hw⟩ := id hs
  have hcircle (c : Color565) : ∃ t,
      operation (fun s => (drawCircleActs s.cfg x0.toInt y0.toInt radius.toInt c, .ok)) s = .next t ∧
      s.onlyWire t ∧
      t.trace = s.trace ++ (discPoints x0.toInt y0.toInt radius.toInt).flatMap
        (fun p => pixelEvents s.cfg p.1 p.2 c) ∧
      t.xfer = s.xfer + 6 * (discPoints x0.toInt y0.toInt radius.toInt).length ∧
      t.resp = some ⟨.ok, 0⟩ := by
    obtain ⟨htrace, hxfer, hwire⟩ := afterPoints_emitted (s := { s with busy := true }) hw
      (discPoints x0.toInt y0.toInt radius.toInt) c
    rw [pointEvents_busWrites] at hxfer
    exact ⟨_, drawCircle_completes hs hok c, hwire.of_locked hb _ _, htrace, hxfer, rfl⟩
  exact ⟨hcircle c, hcircle (toColor565 k)⟩

end Sys2Proof.Machine
end

section
/-! The rendering primitives on the panel (42 R148 to R150, 45 R186 to R198): a rectangle of pixels is
written row by row through the window opened for it, and no other pixel changes. -/

namespace Sys2Proof.Machine

/-! ## The panel under a window -/

/-- A panel ready to draw after `setWindow` (R140, R147). -/
def Panel.framed (cfg : Cfg) (left right top bottom : Int) (p : Panel) : Panel :=
  { p with
    undef := false, cmd := some cfg.opcRamwr, par := [], half := none, armed := true
    sc := .of (wireCoord left), ec := .of (wireCoord right)
    sp := .of (wireCoord top), ep := .of (wireCoord bottom)
    cx := .of (wireCoord left), cy := .of (wireCoord top) }

theorem afterWindow_framed {s : State} (hwf : s.cfg.wf) (hp : s.panelReady)
    (left right top bottom : Int) :
    (afterWindow left right top bottom s).panel = s.panel.framed s.cfg left right top bottom := by
  obtain ⟨hu, hi, -⟩ := hp
  rw [afterWindow_panel _ _ _ _ hwf, hu, hi]
  rfl

/-- The second memory-write command finds the panel as it leaves it (R188). -/
theorem afterRearm_framed {s : State} (hwf : s.cfg.wf) (hp : s.panelReady)
    (left right top bottom : Int) :
    (afterRearm left right top bottom s).panel = s.panel.framed s.cfg left right top bottom := by
  have hramwr := sendCommand_panel s.cfg.opcRamwr (afterWindow left right top bottom s)
  rw [afterWindow_cfg, commandByte_ramwr hwf.nodup, afterWindow_framed hwf hp,
    incomplete_of_par_nil s.cfg (p := s.panel.framed s.cfg left right top bottom) rfl] at hramwr
  exact hramwr

theorem wireCoord_toNat {n : Nat} (h : n < 65536) : (wireCoord n).toNat = n := by
  rw [wireCoord, BitVec.toNat_ofInt]
  omega

/-- The rectangle of `W` by `H` pixels at `(x, y)` has a pixel, lies on a screen of `w` by `h`, and its
coordinates fit the wire (R10). -/
structure OnScreen (w h x y W H : Nat) : Prop where
  someColumn : 0 < W
  someRow : 0 < H
  columns : x + W ≤ w
  rows : y + H ≤ h
  wireColumns : x + W ≤ 65536
  wireRows : y + H ≤ 65536

section Rectangle

variable {w h x y W H : Nat} (hc : OnScreen w h x y W H)
include hc

theorem OnScreen.corners :
    (wireCoord x).toNat = x ∧ (wireCoord ((x : Int) + W - 1)).toNat = x + W - 1 ∧
    (wireCoord y).toNat = y ∧ (wireCoord ((y : Int) + H - 1)).toNat = y + H - 1 := by
  obtain ⟨hW, hH, -, -, hx, hy⟩ := hc
  have hright : ((x : Int) + W - 1) = ((x + W - 1 : Nat) : Int) := by omega
  have hbottom : ((y : Int) + H - 1) = ((y + H - 1 : Nat) : Int) := by omega
  rw [hright, hbottom]
  exact ⟨wireCoord_toNat (by omega), wireCoord_toNat (by omega), wireCoord_toNat (by omega),
    wireCoord_toNat (by omega)⟩

theorem OnScreen.windowOk {cfg : Cfg} {p : Panel} (hp : p.pixfmt = .of cfg.payPixset) :
    (p.framed cfg x (x + W - 1) y (y + H - 1)).windowOk cfg w h = true := by
  obtain ⟨hleft, hright, htop, hbottom⟩ := hc.corners
  obtain ⟨hW, hH, hx, hy, -, -⟩ := hc
  simp only [Panel.windowOk, Panel.framed, Reg.of, hp, hleft, hright, htop, hbottom, Bool.and_eq_true,
    decide_eq_true_eq, and_true, true_and]
  omega

/-- As many pixels as the rectangle has fill it, row by row, and leave everything else of the panel as
the window left it (R150). -/
theorem OnScreen.filled {cfg : Cfg} {p : Panel} (hp : p.pixfmt = .of cfg.payPixset)
    {l : List Word16} (hl : l.length = W * H) :
    ∃ m, l.foldl (Panel.dataWord cfg w h) (p.framed cfg x (x + W - 1) y (y + H - 1)) =
        { p.framed cfg x (x + W - 1) y (y + H - 1) with fm := m } ∧
      (∀ i j, i < W → j < H → Memory.read m (pixelKey (x + i) (y + j)) = l[j * W + i]?) ∧
      (∀ key, (∀ i j, i < W → j < H → key ≠ pixelKey (x + i) (y + j)) →
        Memory.read m key = Memory.read p.fm key) := by
  obtain ⟨hleft, hright, htop, hbottom⟩ := hc.corners
  have hW := hc.someColumn
  have hH := hc.someRow
  obtain ⟨q, hfold, hq, hin, hout⟩ := completeFill cfg w h
    (p.framed cfg x (x + W - 1) y (y + H - 1)) l W H rfl rfl rfl (hc.windowOk hp) rfl rfl
    (by simp only [Panel.framed, Reg.of, hleft, hright]; omega)
    (by simp only [Panel.framed, Reg.of, htop, hbottom]; omega) hl
  simp only [Panel.framed, Reg.of, hleft, htop] at hin hout
  exact ⟨q.fm, hfold.trans hq, hin, hout⟩

end Rectangle

/-! ## A rectangle of the frame memory -/

/-- From `s` to `t` the rectangle of `W` by `H` pixels at `(x, y)` took the colours `l`, row by row, no
other pixel changed, the window is the rectangle with the cursor at its first pixel, and the panel is
armed and ready to draw again (R150). -/
def State.Painted (s t : State) (x y W H : Nat) (l : List Word16) : Prop :=
  t.panelReady ∧ (∀ i j, i < W → j < H → t.pixel (x + i) (y + j) = l[j * W + i]?) ∧
  s.pixelsKept t (fun a b => x ≤ a ∧ a < x + W ∧ y ≤ b ∧ b < y + H) ∧
  t.panel.windowAt x (x + W - 1) y (y + H - 1) x y ∧ t.panel.armed = true

/-- The pixels of the rectangle sent under its window paint it. -/
theorem afterBracket_painted {s u : State} {x y W H : Nat} (hwf : s.cfg.wf) (hp : s.panelReady)
    (hc : OnScreen s.width s.height x y W H) (hwire : s.onlyWire u)
    (hframed : u.panel = s.panel.framed s.cfg x (x + W - 1) y (y + H - 1))
    {batches : List (List Word16)} (hl : batches.flatten.length = W * H) :
    s.Painted (afterBracket batches u) x y W H batches.flatten := by
  obtain ⟨hu, -, hfmt⟩ := hp
  obtain ⟨m, hfold, hin, hout⟩ := hc.filled hfmt hl
  have hpanel := afterBracket_panel (hwire.cfg.symm ▸ hwf : u.cfg.wf) batches
  rw [hframed, hwire.cfg, hwire.width, hwire.height, hfold] at hpanel
  have hdefined : (afterBracket batches u).panel.undef = false := by rw [hpanel]; rfl
  refine ⟨?_, fun i j hi hj => ?_, fun a b ha hab => ?_, ?_, ?_⟩
  · refine ⟨hdefined, incomplete_of_par_nil _ (by rw [hpanel]; rfl), ?_⟩
    rw [hpanel, afterBracket_cfg, hwire.cfg]
    exact hfmt
  · rw [pixel_of_defined hdefined, hpanel]
    exact hin i j hi hj
  · rw [pixel_of_defined hdefined, pixel_of_defined hu, hpanel]
    refine hout _ fun i j hi hj hkey => hab ?_
    have hwidth := hc.wireColumns
    obtain ⟨rfl, rfl⟩ := pixelKey_inj _ _ _ _ ha (by omega) hkey
    omega
  · rw [hpanel]
    exact ⟨rfl, rfl, rfl, rfl, rfl, rfl⟩
  · rw [hpanel]
    rfl

theorem afterBlit_painted {s : State} {x y W H : Nat} (hwf : s.cfg.wf) (hp : s.panelReady)
    (hc : OnScreen s.width s.height x y W H) {batches : List (List Word16)}
    (hl : batches.flatten.length = W * H) :
    s.Painted (afterBlit x (x + W - 1) y (y + H - 1) batches s) x y W H batches.flatten :=
  afterBracket_painted hwf hp hc (afterWindow_sent _ _ _ _ s).onlyWire (afterWindow_framed hwf hp _ _ _ _) hl

theorem afterFill_painted {s : State} {x y W H : Nat} (hwf : s.cfg.wf) (hp : s.panelReady)
    (hc : OnScreen s.width s.height x y W H) (c : Color565) :
    s.Painted (afterFill x (x + W - 1) y (y + H - 1) (rectBatches W H c) s) x y W H
      (List.replicate (W * H) c) := by
  have hflat : (rectBatches W H c).flatten = List.replicate (W * H) c := by
    rw [rectBatches_eq, rowBatches_flatten, fillRows_flatten]
  rw [← hflat]
  exact afterBracket_painted hwf hp hc (afterRearm_sent _ _ _ _ s).onlyWire
    (afterRearm_framed hwf hp _ _ _ _) (by rw [hflat, List.length_replicate])

theorem add_one_sub_one (v : Int) : v + (1 : Nat) - 1 = v := by omega

theorem afterPixel_painted {s : State} {x y : Nat} (hwf : s.cfg.wf) (hp : s.panelReady)
    (hc : OnScreen s.width s.height x y 1 1) (c : Color565) : s.Painted (afterPixel x y c s) x y 1 1 [c] := by
  have hpainted := afterBlit_painted hwf hp hc (batches := [[c]]) rfl
  rwa [add_one_sub_one, add_one_sub_one] at hpainted

/-- The lock taken before and the answer given after leave the panel as it is (R238). -/
theorem State.Painted.of_locked {s u : State} {x y W H : Nat} {l : List Word16}
    (h : State.Painted { s with busy := true } u x y W H l) (st : Status) (r : Word16) :
    s.Painted (answer st r u) x y W H l := h

/-- Pixel `i` of row `j` is one of the rectangle's pixels. -/
theorem row_index_lt {i j W H : Nat} (hi : i < W) (hj : j < H) : j * W + i < W * H :=
  calc j * W + i < (j + 1) * W := by rw [Nat.add_one_mul]; omega
    _ ≤ H * W := Nat.mul_le_mul_right _ hj
    _ = W * H := Nat.mul_comm _ _

/-- A rectangle of one colour. -/
theorem State.Painted.uniform {s t : State} {x y W H : Nat} {c : Color565}
    (h : s.Painted t x y W H (List.replicate (W * H) c)) {a b : Nat} (hxa : x ≤ a) (hax : a < x + W)
    (hyb : y ≤ b) (hby : b < y + H) : t.pixel a b = some c := by
  obtain ⟨-, hin, -⟩ := h
  obtain ⟨i, rfl⟩ := Nat.exists_eq_add_of_le hxa
  obtain ⟨j, rfl⟩ := Nat.exists_eq_add_of_le hyb
  rw [hin i j (by omega) (by omega),
    List.getElem?_replicate_of_lt (row_index_lt (by omega) (by omega))]

theorem State.pixelsKept.mono {s t : State} {R Q : Nat → Nat → Prop} (h : s.pixelsKept t R)
    (hRQ : ∀ a b, R a b → Q a b) : s.pixelsKept t Q :=
  fun a b ha hab => h a b ha fun hR => hab (hRQ a b hR)

/-! ## DRAW_PIXEL, FILL_RECT and FILL_SCREEN -/

theorem State.legalScreen.le {s : State} (h : s.legalScreen) : s.width ≤ 320 ∧ s.height ≤ 320 := by
  rcases h with ⟨hwidth, hheight⟩ | ⟨hwidth, hheight⟩ <;> omega

/-- Settles O36: a rectangle of one pixel. -/
theorem drawPixelWritesItsPixel : Obligations.DrawPixelWritesItsPixel := by
  intro s x y c hwf hs hp hok hx0 hxs hy0 hys
  have hx := toInt_eq_toNat_of_nonneg hx0
  have hy := toInt_eq_toNat_of_nonneg hy0
  have hc : OnScreen s.width s.height x.toNat y.toNat 1 1 :=
    ⟨Nat.one_pos, Nat.one_pos, by omega, by omega, x.isLt, y.isLt⟩
  obtain ⟨⟨hu, -⟩, hin, hout, hwindow, harmed⟩ :=
    (afterPixel_painted (s := { s with busy := true }) hwf hp hc c).of_locked .ok 0
  rw [add_one_sub_one, add_one_sub_one] at hwindow
  have hexec : exec (.drawPixel565 x y c) s =
    operation (fun s => (drawPixelActs s.cfg x.toInt y.toInt c, .ok)) s := rfl
  rw [hexec, hx, hy]
  exact ⟨_, drawPixel_completes hs hok _ _ c, hu, hin 0 0 Nat.one_pos Nat.one_pos,
    hout.mono fun a b hab => by omega, hwindow, harmed⟩

/-- Settles O39: a rectangle of one colour. -/
theorem fillRectFillsItsRectangle : Obligations.FillRectFillsItsRectangle := by
  intro s l r t b c W H hwf hs hp hlegal hW hH hok hl0 hlr hrs ht0 htb hbs
  have hl := toInt_eq_toNat_of_nonneg hl0
  have hr := toInt_eq_toNat_of_nonneg (hl0.trans hlr)
  have ht := toInt_eq_toNat_of_nonneg ht0
  have hb := toInt_eq_toNat_of_nonneg (ht0.trans htb)
  have hright : r.toInt = (l.toNat : Int) + W - 1 := by omega
  have hbottom : b.toInt = (t.toNat : Int) + H - 1 := by omega
  have hc : OnScreen s.width s.height l.toNat t.toNat W H :=
    ⟨by omega, by omega, by omega, by omega, by omega, by omega⟩
  have hpainted := (afterFill_painted (s := { s with busy := true }) hwf hp hc c).of_locked .ok 0
  obtain ⟨⟨hu, -⟩, -, hout, hwindow, harmed⟩ := id hpainted
  have hrun := fillRect_completes hs hW hH hc.someColumn hc.someRow hok c
  have hexec : exec (.fillRect l r t b c) s =
    operation (fillRectPlan l.toInt r.toInt t.toInt b.toInt c) s := rfl
  rw [hl, hright, ht, hbottom] at hrun hexec ⊢
  exact ⟨_, hexec.trans hrun, hu,
    fun x y hlx hxr hty hyb => hpainted.uniform hlx (by omega) hty (by omega),
    hout.mono fun x y hxy => by omega, hwindow, harmed⟩

theorem fillScreen_completes {s : State} (hs : s.ready) (hlegal : s.legalScreen) (hok : s.writesOk 7)
    (c : Color565) : ∃ t, operation (fillScreenPlan c) s = .next t ∧ s.screenFilled t c := by
  obtain ⟨hb, -, hw⟩ := id hs
  have hpixels : s.width * s.height = 76800 := by
    rcases hlegal with ⟨hwidth, hheight⟩ | ⟨hwidth, hheight⟩ <;> rw [hwidth, hheight]
  have hc : OnScreen s.width s.height 0 0 s.width s.height := by
    rcases hlegal with ⟨hwidth, hheight⟩ | ⟨hwidth, hheight⟩ <;> constructor <;> omega
  have hbatches : rectBatches s.width s.height c = [List.replicate 76800 c] := by
    rw [rectBatches, hpixels, if_pos rfl]
  have hrun := fillRect_completes hs (left := 0) (right := (s.width : Int) - 1) (top := 0)
    (bottom := (s.height : Int) - 1) (by omega) (by omega) hc.someColumn hc.someRow
    (by rwa [hpixels]) c
  have hsent := (afterFill_sent (s := { s with busy := true }) 0 ((s.width : Int) - 1) 0
    ((s.height : Int) - 1) hw (rectBatches_ne_nil hc.someRow s.width c)).of_locked hb .ok 0
  refine ⟨_, hrun, hbatches ▸ hsent, rfl, fun hwf hp => ?_⟩
  have hpainted := (afterFill_painted (s := { s with busy := true }) hwf hp hc c).of_locked .ok 0
  simp only [Int.natCast_zero, Int.zero_add] at hpainted
  obtain ⟨⟨hu, -⟩, -⟩ := id hpainted
  exact ⟨hu, fun x y hx hy => hpainted.uniform (Nat.zero_le x) (by omega) (Nat.zero_le y) (by omega)⟩

/-- Settles O46: FILL_RECT over a screen of 76800 pixels, which is even. -/
theorem fillScreenPaintsTheScreen : Obligations.FillScreenPaintsTheScreen := fun s c hs hlegal hok =>
  ⟨fillScreen_completes hs hlegal hok c, fillScreen_completes hs hlegal hok s.cfg.clearColor⟩

/-! ## FLUSH -/

/-- Entry `i` of row `j` in rows of one length, one after the other. -/
theorem getElem?_flatten_of_rows {α : Type} {rows : List (List α)} {W : Nat}
    (h : ∀ row ∈ rows, row.length = W) {i : Nat} (hi : i < W) (j : Nat) :
    rows.flatten[j * W + i]? = rows[j]?.bind (·[i]?) := by
  induction rows generalizing j with
  | nil => rfl
  | cons row rows ih =>
    have hrow := h row List.mem_cons_self
    rw [List.flatten_cons]
    cases j with
    | zero => rw [Nat.zero_mul, Nat.zero_add, List.getElem?_append_left (by omega)]; rfl
    | succ j =>
      have hskip : (j + 1) * W + i = row.length + (j * W + i) := by rw [Nat.add_one_mul]; omega
      rw [hskip, List.getElem?_append_right (Nat.le_add_right _ _), Nat.add_sub_cancel_left]
      exact ih (fun r hr => h r (List.mem_cons_of_mem _ hr)) j

theorem blitRows_uniform (buf : List Color565) (stride w h : Nat) :
    ∀ row ∈ blitRows buf stride w h, row.length = w := by
  simp [blitRows, blitRow]

theorem blitRows_flatten_length (buf : List Color565) (stride w h : Nat) :
    (blitRows buf stride w h).flatten.length = w * h := by
  rw [List.length_flatten, List.map_congr_left (blitRows_uniform buf stride w h), List.map_const',
    List.sum_replicate]
  simp [blitRows, Nat.mul_comm]

/-- Pixel `i` of row `j` of a blit is the buffer's, if the buffer is long enough (R194). -/
theorem blitRows_flatten_getElem? {buf : List Color565} {stride w h i j : Nat} (hi : i < w) (hj : j < h)
    (hbuf : j * stride + i < buf.length) :
    (blitRows buf stride w h).flatten[j * w + i]? = buf[j * stride + i]? := by
  rw [getElem?_flatten_of_rows (blitRows_uniform buf stride w h) hi]
  simp [blitRows, blitRow, hi, hj, hbuf]

/-- Settles O45: the rows of the clamped window, which the buffer holds at the unclamped stride. -/
theorem flushCopiesTheBuffer : Obligations.FlushCopiesTheBuffer := by
  intro s x y w h w' h' hwf hs hp hlegal hx0 hy0 hw0 hh0 hw' hh' hw'0 hh'0 hbuf hok
  have hx := toInt_eq_toNat_of_nonneg hx0
  have hy := toInt_eq_toNat_of_nonneg hy0
  have hw := toInt_eq_toNat_of_nonneg hw0.le
  have hh := toInt_eq_toNat_of_nonneg hh0.le
  obtain ⟨hwidth, hheight⟩ := hlegal.le
  have hc : OnScreen s.width s.height x.toNat y.toNat w' h' :=
    ⟨hw'0, hh'0, by omega, by omega, by omega, by omega⟩
  have hflat := rowBatches_flatten (w' * h') (blitRows s.buf w.toNat w' h')
  have hpainted := (afterBlit_painted (s := { s with busy := true }) hwf hp hc
    (by rw [hflat, blitRows_flatten_length])).of_locked .ok 0
  obtain ⟨⟨hu, -⟩, hin, hout, hwindow, harmed⟩ := id hpainted
  have hrun := flush_completes hs ⟨hx0, hy0, hw0, hh0, hw', hh', hw'0, hh'0, hbuf⟩ hok
  rw [hx, hy] at hrun ⊢
  refine ⟨_, hrun, hu, fun i j hi hj => ?_, hout, hwindow, harmed⟩
  have hindex : j * w.toNat + i < w.toNat * h.toNat := row_index_lt (by omega) (by omega)
  have hlong : w.toNat * h.toNat ≤ s.buf.length := by
    rw [hw, hh] at hbuf
    exact_mod_cast hbuf
  rw [hin i j hi hj, hflat, blitRows_flatten_getElem? hi hj (hindex.trans_le hlong)]

/-! ## DRAW_CIRCLE -/

/-- From `s` to `t` every one of the points took the colour `c`, no other pixel changed, the window and the
cursor are at the last point, and the panel is ready to draw again. Columns are 16-bit (R92). -/
def State.Dotted (s t : State) (points : List (Int × Int)) (c : Color565) : Prop :=
  t.panelReady ∧ (∀ x y : Nat, x < 65536 → ((x : Int), (y : Int)) ∈ points → t.pixel x y = some c) ∧
  (s.pixelsKept t fun x y => ((x : Int), (y : Int)) ∈ points) ∧
  ∀ p ∈ points.getLast?, t.panel.windowAt p.1 p.1 p.2 p.2 p.1 p.2

theorem State.Dotted.nil {s : State} (hp : s.panelReady) (c : Color565) : s.Dotted s [] c :=
  ⟨hp, fun _ _ _ h => absurd h List.not_mem_nil, fun _ _ _ _ => rfl, fun _ h => by cases h⟩

/-- One more point is drawn over those before. -/
theorem State.Dotted.snoc {s u t : State} {points : List (Int × Int)} {c : Color565} {x y : Nat}
    (h : s.Dotted u points c) (hp : u.Painted t x y 1 1 [c]) :
    s.Dotted t (points ++ [((x : Int), (y : Int))]) c := by
  obtain ⟨-, hdots, hkept, -⟩ := h
  obtain ⟨hready, hin, hout, hwindow, -⟩ := hp
  rw [add_one_sub_one, add_one_sub_one] at hwindow
  have hpoint : t.pixel x y = some c := hin 0 0 Nat.one_pos Nat.one_pos
  have hother {a b : Nat} (ha : a < 65536) (hab : ¬ (a = x ∧ b = y)) : t.pixel a b = u.pixel a b :=
    hout a b ha fun h => hab (by omega)
  simp only [State.Dotted, State.pixelsKept, List.mem_append, List.mem_singleton, Prod.mk.injEq,
    Int.natCast_inj, not_or]
  refine ⟨hready, fun a b ha hmem => ?_, fun a b ha hmem => ?_, ?_⟩
  · by_cases hlast : a = x ∧ b = y
    · obtain ⟨rfl, rfl⟩ := hlast
      exact hpoint
    · rw [hother ha hlast]
      exact hdots a b ha (hmem.resolve_right hlast)
  · obtain ⟨hnot, hlast⟩ := hmem
    rw [hother ha hlast]
    exact hkept a b ha hnot
  · simpa using hwindow

theorem afterPoints_snoc (points : List (Int × Int)) (p : Int × Int) (c : Color565) (s : State) :
    afterPoints (points ++ [p]) c s = afterPixel p.1 p.2 c (afterPoints points c s) := by
  unfold afterPoints
  rw [List.foldl_append, List.foldl_cons, List.foldl_nil]

/-- A point of integer coordinates on a screen of `w` by `h`. -/
def PointOnScreen (w h : Nat) (p : Int × Int) : Prop :=
  ∃ x y : Nat, p = ((x : Int), (y : Int)) ∧ OnScreen w h x y 1 1

/-- DRAW_PIXEL at each of a list of points on the screen. -/
theorem afterPoints_dotted {s : State} (hwf : s.cfg.wf) (hw : s.busWidth = .w8) (hp : s.panelReady)
    {points : List (Int × Int)} (hon : ∀ p ∈ points, PointOnScreen s.width s.height p) (c : Color565) :
    s.Dotted (afterPoints points c s) points c := by
  induction points using List.reverseRecOn with
  | nil => exact .nil hp c
  | append_singleton points p ih =>
    have hdots := ih fun q hq => hon q (List.mem_append_left _ hq)
    obtain ⟨-, -, hwire⟩ := afterPoints_emitted hw points c
    obtain ⟨x, y, rfl, hc⟩ := hon p (by simp)
    obtain ⟨hready, -⟩ := id hdots
    rw [← hwire.width, ← hwire.height] at hc
    rw [afterPoints_snoc]
    exact hdots.snoc (afterPixel_painted (hwire.cfg.symm ▸ hwf) hready hc c)

/-- The last point of the scan is the rightmost one of the disc's middle row (R193). -/
theorem discPoints_getLast? {x0 y0 radius : Int} (hr : 0 ≤ radius) :
    (discPoints x0 y0 radius).getLast? = some (x0 + radius, y0) := by
  have hmem : (x0 + radius, y0) ∈ discPoints x0 y0 radius := mem_discPoints.2 ⟨hr, by simp⟩
  obtain ⟨before, after, hsplit⟩ := List.mem_iff_append.1 hmem
  have hnone : after = [] := by
    rw [List.eq_nil_iff_forall_not_mem]
    rintro ⟨x, y⟩ hp
    have hascending := discPoints_ascending x0 y0 radius
    rw [hsplit, List.pairwise_append, List.pairwise_cons] at hascending
    obtain ⟨-, ⟨hlater, -⟩, -⟩ := hascending
    have hscan : (x, y) ∈ discPoints x0 y0 radius :=
      hsplit ▸ List.mem_append_right _ (List.mem_cons_of_mem _ hp)
    obtain ⟨-, hdisc⟩ := mem_discPoints.1 hscan
    obtain ⟨-, hcolumn⟩ := offset_le_of_inDisc hr hdisc
    rcases hlater _ hp with hx | ⟨hx, hy⟩ <;> dsimp only at hx
    · omega
    · dsimp only at hy
      rw [← hx, add_sub_cancel_left] at hdisc
      nlinarith
  rw [hsplit, hnone, List.getLast?_concat]

/-- Settles O42: the points of the scan one after the other, the rightmost one last. -/
theorem drawCircleFillsItsDisc : Obligations.DrawCircleFillsItsDisc := by
  intro s x0 y0 radius c hwf hs hp hlegal hok hr hx0 hxr hy0 hyr
  obtain ⟨-, -, hw⟩ := id hs
  obtain ⟨hwidth, hheight⟩ := hlegal.le
  have hbounds {x y : Int} (h : (x - x0.toInt) * (x - x0.toInt) + (y - y0.toInt) * (y - y0.toInt) ≤
      radius.toInt * radius.toInt) : (0 ≤ x ∧ x < s.width) ∧ 0 ≤ y ∧ y < s.height := by
    have hx := offset_le_of_inDisc hr h
    have hy := offset_le_of_inDisc hr (by rwa [add_comm] at h)
    omega
  have hon : ∀ p ∈ discPoints x0.toInt y0.toInt radius.toInt, PointOnScreen s.width s.height p := by
    rintro ⟨x, y⟩ hmem
    obtain ⟨-, hdisc⟩ := mem_discPoints.1 hmem
    obtain ⟨⟨hx, hxw⟩, hy, hyh⟩ := hbounds hdisc
    obtain ⟨a, rfl⟩ := Int.eq_ofNat_of_zero_le hx
    obtain ⟨b, rfl⟩ := Int.eq_ofNat_of_zero_le hy
    exact ⟨a, b, rfl, Nat.one_pos, Nat.one_pos, by omega, by omega, by omega, by omega⟩
  obtain ⟨⟨hu, -⟩, hdots, hkept, hwindow⟩ :=
    afterPoints_dotted (s := { s with busy := true }) hwf hw hp hon c
  exact ⟨_, drawCircle_completes hs hok c, hu,
    fun x y hdisc => hdots x y (by have := hbounds hdisc; omega) (mem_discPoints.2 ⟨hr, hdisc⟩),
    State.pixelsKept.mono (s := s) hkept fun x y hmem => (mem_discPoints.1 hmem).2,
    hwindow _ (discPoints_getLast? hr)⟩

end Sys2Proof.Machine
end

section
/-! The text operations (spec 46): the run of drawChar and what it leaves on the panel (R212), the run of
drawString as the glyphs of its layout one after the other (R214), and the layout of text of one glyph
width (R216). -/

namespace Sys2Proof.Machine

/-! ## One glyph -/

/-- The actions of drawChar with a glyph it accepts (R212). -/
def charActs (cfg : Cfg) (x y : Int) (fg bg : Color565) (g : Glyph) : List Act :=
  setWindowActs cfg x (x + g.width - 1) y (y + g.height - 1) ++ bracketActs cfg [glyphPixels fg bg g]

/-- The state after them. -/
def afterChar (x y : Int) (fg bg : Color565) (g : Glyph) (s : State) : State :=
  afterBlit x (x + g.width - 1) y (y + g.height - 1) [glyphPixels fg bg g] s

/-- The refusal test of R212 is the negation of drawability. -/
theorem refused_iff_not_drawable (g : Glyph) :
    (g.width < 1 ∨ g.height < 1 ∨ 8 * (g.bitmap.length : Int) < g.width * g.height) ↔
      ¬ glyphDrawable g := by
  simp only [glyphDrawable, not_and_or, not_le]

theorem drawCharPlan_undrawable {g : Glyph} (hg : ¬ glyphDrawable g) (cfg : Cfg) (x y : Int)
    (fg bg : Color565) : drawCharPlan cfg x y fg bg g = ([], .eContract) :=
  if_pos ((refused_iff_not_drawable g).2 hg)

theorem drawCharPlan_drawable {g : Glyph} (hg : glyphDrawable g) (cfg : Cfg) (x y : Int)
    (fg bg : Color565) : drawCharPlan cfg x y fg bg g = (charActs cfg x y fg bg g, .ok) :=
  if_neg fun h => (refused_iff_not_drawable g).1 h hg

/-- Pixel `k` of the buffer is bit `7 - (k mod 8)` of byte `k div 8` (R210). -/
theorem glyphPixels_eq (fg bg : Color565) (g : Glyph) :
    glyphPixels fg bg g = (List.range (g.width * g.height).toNat).map (glyphColor fg bg g) := rfl

theorem charEvents_busWrites (cfg : Cfg) (x y : Int) (fg bg : Color565) (g : Glyph) :
    busWrites (charEvents cfg x y fg bg g) = 6 := rfl

theorem runActs_char {s : State} (hw : s.busWidth = .w8) (hok : s.writesOk 6) (x y : Int)
    (fg bg : Color565) (g : Glyph) :
    runActs (charActs s.cfg x y fg bg g) s = .done (afterChar x y fg bg g s) :=
  runActs_blit _ _ _ _ hw hok

theorem afterChar_sent {s : State} (hw : s.busWidth = .w8) (x y : Int) (fg bg : Color565) (g : Glyph) :
    s.sent (afterChar x y fg bg g s) (charEvents s.cfg x y fg bg g) s.cfg.dcDataLevel :=
  afterBlit_sent _ _ _ _ hw (List.cons_ne_nil _ _)

/-! ## drawChar -/

/-- drawChar takes no lock and tests no phase (log 15). -/
theorem exec_drawChar (x y : Int) (fg bg : Color565) (g : Glyph) (s : State) :
    exec (.drawChar x y fg bg g) s =
      runAndAnswer (drawCharPlan s.cfg x y fg bg g).1 (drawCharPlan s.cfg x y fg bg g).2 s := rfl

theorem drawChar_completes {s : State} (hw : s.busWidth = .w8) (hok : s.writesOk 6) {g : Glyph}
    (hg : glyphDrawable g) (x y : Int) (fg bg : Color565) :
    exec (.drawChar x y fg bg g) s = .next (answer .ok 0 (afterChar x y fg bg g s)) := by
  rw [exec_drawChar, drawCharPlan_drawable hg, runAndAnswer, runActs_char hw hok]

theorem drawChar_undrawable {s : State} (hb : s.busy = false) {g : Glyph} (hg : ¬ glyphDrawable g)
    (x y : Int) (fg bg : Color565) :
    exec (.drawChar x y fg bg g) s = .next { s with resp := some ⟨.eContract, 0⟩ } := by
  rw [exec_drawChar, drawCharPlan_undrawable hg, ← answer_of_idle hb]
  rfl

/-- What was sent before an answer stays sent when no lock was taken. -/
theorem State.sent.answered {s u : State} {es : List Event} {level : Level} (h : s.sent u es level)
    (hb : s.busy = false) (st : Status) (r : Word16) : s.sent (answer st r u) es level := by
  obtain ⟨htrace, hxfer, hdc, hwire⟩ := h
  exact ⟨htrace, hxfer, hdc, (congrArg (answer st r) hwire).trans (by simp [answer, hb])⟩

/-- Settles O48: the glyph test of R212, and the run of the window and its one batch. -/
theorem drawCharCompletes : Obligations.DrawCharCompletes := fun _ x y fg bg g hb hw =>
  ⟨fun hg => drawChar_undrawable hb hg x y fg bg, fun hg hok =>
    ⟨_, drawChar_completes hw hok hg x y fg bg, (afterChar_sent hw x y fg bg g).answered hb _ _, rfl⟩⟩

/-- A glyph on the screen is painted in its box. -/
theorem afterChar_painted {s : State} {x y W H : Nat} (hwf : s.cfg.wf) (hp : s.panelReady)
    (hc : OnScreen s.width s.height x y W H) {g : Glyph} (hwidth : g.width = W) (hheight : g.height = H)
    (fg bg : Color565) :
    s.Painted (afterChar x y fg bg g s) x y W H ((List.range (W * H)).map (glyphColor fg bg g)) := by
  have hpixels : glyphPixels fg bg g = (List.range (W * H)).map (glyphColor fg bg g) := by
    rw [glyphPixels_eq, hwidth, hheight, ← Int.natCast_mul, Int.toNat_natCast]
  rw [afterChar, hwidth, hheight, hpixels]
  simpa using afterBlit_painted hwf hp hc
    (batches := [(List.range (W * H)).map (glyphColor fg bg g)]) (by simp)

/-- An answer leaves what was painted as it is. -/
theorem State.Painted.answered {s u : State} {x y W H : Nat} {l : List Word16}
    (h : s.Painted u x y W H l) (st : Status) (r : Word16) : s.Painted (answer st r u) x y W H l := h

/-- Settles O49: the glyph's pixels fill its box row by row. -/
theorem drawCharPaintsItsGlyph : Obligations.DrawCharPaintsItsGlyph := by
  intro s x y w h fg bg g hwf hb hw hp hlegal hok hg hwidth hheight hxw hyh
  obtain ⟨hsw, hsh⟩ := hlegal.le
  obtain ⟨hw1, hh1, -⟩ := id hg
  have hc : OnScreen s.width s.height x y w h :=
    ⟨by omega, by omega, hxw, hyh, by omega, by omega⟩
  obtain ⟨⟨hu, -⟩, hin, hout, -⟩ :=
    (afterChar_painted hwf hp hc hwidth hheight fg bg).answered .ok 0
  refine ⟨_, drawChar_completes hw hok hg x y fg bg, hu, fun i j hi hj => ?_, hout⟩
  rw [hin i j hi hj, List.getElem?_map, List.getElem?_range (row_index_lt hi hj), Option.map_some]

/-! ## The layout of drawString -/

/-- Where a glyph is placed from a cursor: there, or after a wrap if it does not fit (R214). -/
def wrapped (width x : Int) (g : Glyph) (curX curY : Int) : Int × Int :=
  if curX + g.width > width then (x, curY + g.height) else (curX, curY)

section Layout

variable {width : Int} {font : Font} {x : Int} {ch : Char} {g : Glyph}

/-- A character that draws its glyph puts it at the place `c` where the wrap test leads, and the rest goes
on from its right edge and its spacing. -/
theorem stringLayout_cons_drawable (hn : ch ≠ '\n') (hr : ch ≠ '\r')
    (hlookup : lookupGlyph font ch = some g) (hg : glyphDrawable g) {curX curY : Int} {c : Int × Int}
    (hc : wrapped width x g curX curY = c) (rest : List Char) :
    stringLayout width font x (ch :: rest) curX curY =
      (⟨c.1, c.2, g⟩ :: (stringLayout width font x rest (c.1 + g.width + g.spacing) c.2).1,
        (stringLayout width font x rest (c.1 + g.width + g.spacing) c.2).2) := by
  have hrefused := mt (refused_iff_not_drawable g).1 (not_not_intro hg)
  subst hc
  simp only [stringLayout, hlookup, if_neg hn, if_neg hr, if_neg hrefused, wrapped]
  split <;> rfl

/-- The loop of R214 runs the actions of drawChar for each glyph of the layout, and ends with the
layout's status. -/
theorem drawStringFrom_eq_stringLayout (cfg : Cfg) (width : Int) (font : Font) (x : Int)
    (fg bg : Color565) (text : List Char) (curX curY : Int) :
    drawStringFrom cfg width font x fg bg text curX curY =
      ((stringLayout width font x text curX curY).1.flatMap fun p => charActs cfg p.x p.y fg bg p.glyph,
        (stringLayout width font x text curX curY).2) := by
  induction text generalizing curX curY with
  | nil => rfl
  | cons ch rest ih =>
    rw [drawStringFrom]
    by_cases hn : ch = '\n'
    · subst hn
      cases hlookup : lookupGlyph font '\n' with
      | none => simp [stringLayout, hlookup]
      | some g => simp [stringLayout, hlookup, ih]
    by_cases hr : ch = '\r'
    · subst hr
      cases hlookup : lookupGlyph font '\r' with
      | none => simp [stringLayout, hlookup, ih]
      | some g => simp [stringLayout, hlookup, ih]
    rw [if_neg hn, if_neg hr]
    cases hlookup : lookupGlyph font ch with
    | none => simp [stringLayout, hlookup, hr]
    | some g =>
      by_cases hg : glyphDrawable g
      · rw [stringLayout_cons_drawable hn hr hlookup hg rfl]
        simp only [drawCharPlan_drawable hg, ih, List.flatMap_cons, wrapped]
        split <;> rfl
      · have hrefused := (refused_iff_not_drawable g).2 hg
        simp only [drawCharPlan_undrawable hg, stringLayout, hlookup, if_neg hn, if_neg hr,
          if_pos hrefused, List.flatMap_nil]

end Layout

/-! ## drawString -/

theorem placedEvents_busWrites (cfg : Cfg) (fg bg : Color565) (placed : List Placed) :
    busWrites (placed.flatMap fun p => charEvents cfg p.x p.y fg bg p.glyph) = 6 * placed.length := by
  induction placed with
  | nil => rfl
  | cons p placed ih =>
    rw [List.flatMap_cons, busWrites_append, charEvents_busWrites, ih, List.length_cons]
    omega

/-- Glyphs placed one after the other run to the end, with their events. -/
theorem runActs_placed {s : State} (hw : s.busWidth = .w8) (fg bg : Color565) {placed : List Placed}
    (hok : s.writesOk (6 * placed.length)) :
    ∃ t, runActs (placed.flatMap fun p => charActs s.cfg p.x p.y fg bg p.glyph) s = .done t ∧
      s.Emitted t (placed.flatMap fun p => charEvents s.cfg p.x p.y fg bg p.glyph) := by
  induction placed generalizing s with
  | nil => exact ⟨s, rfl, .nil s⟩
  | cons p placed ih =>
    rw [List.length_cons, Nat.mul_add_one, Nat.add_comm] at hok
    have hsent := afterChar_sent hw p.x p.y fg bg p.glyph
    obtain ⟨t, hrun, hrest⟩ := ih (hsent.onlyWire.busWidth.trans hw) (hsent.emitted.writesOk hok)
    rw [hsent.onlyWire.cfg] at hrun hrest
    rw [List.flatMap_cons, List.flatMap_cons,
      runActs_append_done (runActs_char hw (hok.mono (Nat.le_add_right _ _)) _ _ fg bg _)]
    exact ⟨t, hrun, hsent.emitted.append hrest⟩

/-- Settles O50: the actions of the loop are those of the glyphs of the layout. -/
theorem drawStringPlacesGlyphs : Obligations.DrawStringPlacesGlyphs := by
  intro s x y text fg bg placed st hs hlayout hok
  obtain ⟨hb, -, hw⟩ := id hs
  have hplan := drawStringFrom_eq_stringLayout s.cfg s.width s.font x fg bg text x y
  rw [hlayout] at hplan
  obtain ⟨t, hrun, htrace, hxfer, hwire⟩ :=
    runActs_placed (s := { s with busy := true }) hw fg bg (placed := placed) hok
  rw [placedEvents_busWrites] at hxfer
  have hexec : exec (.drawString x y text fg bg) s =
    operation (fun s => drawStringFrom s.cfg s.width s.font x fg bg text x y) s := rfl
  rw [hexec, operation_completes hs (by rw [hplan]; exact hrun), hplan]
  exact ⟨_, rfl, hwire.of_locked hb _ _, htrace, hxfer, rfl⟩

/-! ## Text of one glyph width -/

/-- Where character `k` goes in text of glyphs `W` by `H` with `m` to a line, from row `y` on (R216). -/
def gridCell (m W H : Nat) (y : Int) (k : Nat) : Int × Int :=
  ((k % m : Nat) * W, y + (k / m : Nat) * H)

/-- The next place is the next column, or the first column of the next line (R216). -/
theorem gridCell_succ {m : Nat} (hm : 0 < m) (W H : Nat) (y : Int) (k : Nat) :
    gridCell m W H y (k + 1) =
      if k % m + 1 < m then ((gridCell m W H y k).1 + W, (gridCell m W H y k).2)
      else (0, (gridCell m W H y k).2 + H) := by
  have hk := Nat.mod_add_div k m
  have hmod := Nat.mod_lt k hm
  split
  · have hnext : (k + 1) / m = k / m ∧ (k + 1) % m = k % m + 1 :=
      (Nat.div_mod_unique hm).2 ⟨by omega, by omega⟩
    obtain ⟨hdiv, hmod⟩ := hnext
    simp only [gridCell, hdiv, hmod, Prod.mk.injEq, and_true]
    push_cast
    ring
  · have hnext : (k + 1) / m = k / m + 1 ∧ (k + 1) % m = 0 :=
      (Nat.div_mod_unique hm).2 ⟨by rw [Nat.mul_add_one]; omega, hm⟩
    obtain ⟨hdiv, hmod⟩ := hnext
    simp only [gridCell, hdiv, hmod, Prod.mk.injEq]
    push_cast
    exact ⟨by ring, by ring⟩

/-- From the end of character `k` the wrap test leads to the place of the next one: it fires when `k` is
the last of its line. -/
theorem wrapped_gridCell {S W H : Nat} (hW : 0 < W) (hWS : W ≤ S) {g : Glyph} (hwidth : g.width = W)
    (hheight : g.height = H) (y : Int) (k : Nat) :
    wrapped S 0 g ((gridCell (S / W) W H y k).1 + W) (gridCell (S / W) W H y k).2 =
      gridCell (S / W) W H y (k + 1) := by
  have hend : (gridCell (S / W) W H y k).1 + W + W = ((k % (S / W) + 2) * W : Nat) := by
    simp only [gridCell]
    push_cast
    ring
  have hfits : k % (S / W) + 2 ≤ S / W ↔ (k % (S / W) + 2) * W ≤ S := Nat.le_div_iff_mul_le hW
  rw [gridCell_succ (Nat.div_pos hWS hW), wrapped, hwidth, hheight, hend]
  by_cases hlast : k % (S / W) + 1 < S / W
  · rw [if_pos hlast, if_neg (by omega)]
  · rw [if_neg hlast, if_pos (by omega)]

/-- The layout of such text from character `k` on, at any cursor from which the next glyph goes to the
place of character `k`. -/
theorem stringLayout_fixedWidth {S W H : Nat} (hW : 0 < W) (hWS : W ≤ S) (y : Int) {font : Font}
    {text : List Char} {glyphs : List Glyph} (htext : ∀ ch ∈ text, ch ≠ '\n' ∧ ch ≠ '\r')
    (hlookup : text.map (lookupGlyph font) = glyphs.map some)
    (hglyphs : ∀ g ∈ glyphs, g.width = W ∧ g.height = H ∧ g.spacing = 0 ∧ glyphDrawable g)
    {k : Nat} {curX curY : Int}
    (hcursor : ∀ g ∈ glyphs, wrapped S 0 g curX curY = gridCell (S / W) W H y k) :
    stringLayout S font 0 text curX curY =
      ((glyphs.zipIdx k).map fun gk =>
        ⟨(gridCell (S / W) W H y gk.2).1, (gridCell (S / W) W H y gk.2).2, gk.1⟩, .ok) := by
  induction glyphs generalizing text k curX curY with
  | nil =>
    rw [List.map_nil, List.map_eq_nil_iff] at hlookup
    rw [hlookup]
    rfl
  | cons g glyphs ih =>
    obtain ⟨ch, rest, rfl, hch, hrest⟩ := List.map_eq_cons_iff.1 hlookup
    obtain ⟨⟨hn, hr⟩, htext⟩ := List.forall_mem_cons.1 htext
    obtain ⟨⟨hwidth, hheight, hspacing, hg⟩, hglyphs⟩ := List.forall_mem_cons.1 hglyphs
    obtain ⟨hcursor, -⟩ := List.forall_mem_cons.1 hcursor
    have hnext (g' : Glyph) (hg' : g' ∈ glyphs) :=
      have ⟨hwidth', hheight', _⟩ := hglyphs g' hg'
      wrapped_gridCell hW hWS hwidth' hheight' y k
    rw [stringLayout_cons_drawable hn hr hch hg hcursor, hwidth, hspacing, add_zero,
      ih htext hrest hglyphs hnext, List.zipIdx_cons, List.map_cons]

/-- Settles O51: the layout of the text is the grid of `floor(S/W)` columns. -/
theorem fixedWidthTextWraps : Obligations.FixedWidthTextWraps := by
  intro s W H y text fg bg glyphs hs hW hWS hH htext hlookup hglyphs hok
  have hcursor (g : Glyph) (hg : g ∈ glyphs) :
      wrapped s.width 0 g 0 y = gridCell (s.width / W) W H y 0 := by
    obtain ⟨hwidth, -⟩ := hglyphs g hg
    rw [wrapped, if_neg (by omega)]
    simp [gridCell]
  have hlength : text.length = glyphs.length := by simpa using congrArg List.length hlookup
  obtain ⟨t, hexec, hwire, htrace, hxfer, hresp⟩ := drawStringPlacesGlyphs s 0 y text fg bg _ _ hs
    (stringLayout_fixedWidth hW hWS y htext hlookup hglyphs hcursor) (by simpa [hlength] using hok)
  rw [List.flatMap_map] at htrace
  rw [List.length_map, List.length_zipIdx, ← hlength] at hxfer
  exact ⟨t, hexec, hwire, htrace, hxfer, hresp⟩

end Sys2Proof.Machine
end

section
/-! The exceptions of spec 60: which phase an operation asks for and how it is refused in another (R236),
the invalid bus identifier (R226), and the phases a step can leave the machine in (R23, R237). -/

namespace Sys2Proof.Machine

/-! ## The phase gate -/

/-- The head of every public operation (R236, R238): held while the lock is taken, refused outside the
phase `p`, and otherwise with the outcome `run`. -/
def gated (p : Phase) (run : Host.Outcome State Fault Refusal) (s : State) :
    Host.Outcome State Fault Refusal :=
  if s.busy then .next s
  else if s.phase = p then run
  else .next (answer .eNotReady 0 s)

theorem gated_notReady {p : Phase} {run : Host.Outcome State Fault Refusal} {s : State}
    (hb : s.busy = false) (hphase : s.phase ≠ p) :
    gated p run s = .next { s with resp := some ⟨.eNotReady, 0⟩ } := by
  rw [gated, if_neg (by simp [hb]), if_neg hphase, answer_of_idle hb]

/-- What a gated operation can have done that answers a next state: nothing or a bare E_NOTREADY, or it
met its phase and ran. -/
theorem gated_next {p : Phase} {run : Host.Outcome State Fault Refusal} {s t : State}
    (h : gated p run s = .next t) :
    t = s ∨ t = { s with resp := some ⟨.eNotReady, 0⟩ } ∨ s.phase = p ∧ run = .next t := by
  by_cases hbusy : s.busy = true
  · rw [gated, if_pos hbusy] at h
    cases h
    exact .inl rfl
  by_cases hphase : s.phase = p
  · rw [gated, if_neg hbusy, if_pos hphase] at h
    exact .inr (.inr ⟨hphase, h⟩)
  · rw [gated_notReady (by simpa using hbusy) hphase] at h
    cases h
    exact .inr (.inl rfl)

/-- Outside its phase a gated operation writes the response port at most. -/
theorem gated_elsewhere {p : Phase} {run : Host.Outcome State Fault Refusal} {s t : State}
    (hphase : s.phase ≠ p) (h : gated p run s = .next t) : ∃ r, t = { s with resp := r } := by
  rcases gated_next h with rfl | rfl | ⟨hp, -⟩
  · exact ⟨t.resp, rfl⟩
  · exact ⟨_, rfl⟩
  · exact absurd hp hphase

/-- What CONSTRUCT does in `P0` with the lock free (R155, R226). -/
def constructRun (o : Orientation) (s : State) : Host.Outcome State Fault Refusal :=
  if busValid s.cfg s.ctorPort.bus then runAndAnswer (initActs s.cfg o) .ok (s.constructing o)
  else .next (answer .eConfig 0 s)

theorem exec_construct (o : Orientation) (s : State) :
    exec (.construct o) s = gated .p0 (constructRun o s) s := by
  have hexec : exec (.construct o) s = execConstruct o s := rfl
  rw [hexec, execConstruct, gated, ite_not]
  rfl

/-- The operations that R236 asks the phase `P9` of. -/
def NeedsReady (i : Instr) : Prop :=
  i.format = .req ∧ (∀ c, i ≠ .toColor565 c) ∧ (∀ o, i ≠ .construct o) ∨
    ∃ x y text fg bg, i = .drawString x y text fg bg

theorem exec_needsReady {i : Instr} (hi : NeedsReady i) (s : State) :
    ∃ run, exec i s = gated .p9 run s := by
  rcases hi with ⟨hreq, hcolor, hconstruct⟩ | ⟨x, y, text, fg, bg, rfl⟩
  · cases i <;> simp only [Instr.format, reduceCtorEq] at hreq
    case construct o => exact absurd rfl (hconstruct o)
    case toColor565 c => exact absurd rfl (hcolor c)
    all_goals exact ⟨_, rfl⟩
  · exact ⟨_, rfl⟩

/-! ## The phase after a step -/

/-- From `s` to `t` the phase was kept, or construction took `P0` to `P9`, or a bus write failed (R23). -/
def State.PhaseMoves (s t : State) : Prop :=
  t.phase = s.phase ∨ s.phase = .p0 ∧ t.phase = .p9 ∨ t.phase = .failed

theorem exec_phaseMoves {i : Instr} {s t : State} (h : exec i s = .next t) : s.PhaseMoves t := by
  by_cases hsame : t.phase = s.phase
  · exact .inl hsame
  · rcases phaseOnlyByConstructOrFailure i s t h hsame with ⟨-, h0, h9⟩ | ⟨hfailed, -⟩
    · exact .inr (.inl ⟨h0, h9⟩)
    · exact .inr (.inr hfailed)

theorem plain_procedure_phaseMoves {l : List Act} (hl : ∀ a ∈ l, a.plain = true) {s t : State}
    (h : procedure l s = .next t) : s.PhaseMoves t := by
  rcases procedure_next l s t h with hdone | ⟨u, -, rfl⟩
  · exact .inl (congrArg State.phase (runActs_unwired hl (.inl hdone)) :)
  · exact .inr (.inr (takeBusFailure_phase u))

theorem notARow_phaseMoves {p : Presented} {s t : State} (h : notARow p s = .next t) :
    s.PhaseMoves t := by
  cases p with
  | request w =>
    cases h
    exact .inl rfl
  | frame bytes =>
    cases bytes with
    | nil =>
      cases h
      exact .inl rfl
    | cons b params => exact plain_procedure_phaseMoves (frameActs_plain s.cfg b params) h
  | call i =>
    cases h
    exact .inl rfl

theorem step_phaseMoves {s t : State} (h : step s = .next t) : s.PhaseMoves t := by
  cases step_result h with
  | held | supplied => exact .inl rfl
  | executed i rest _ hexec => exact (exec_phaseMoves hexec :)
  | unlisted p rest _ hrow => exact (notARow_phaseMoves hrow :)

/-- Settles O47: the gate of each operation, and the moves of the phase. -/
theorem notReadyOutsideItsPhase : Obligations.NotReadyOutsideItsPhase := by
  refine ⟨fun i s hb hphase hi => ?_, fun o s hb hphase => ?_, fun s t h hs => ?_⟩
  · obtain ⟨run, hexec⟩ := exec_needsReady hi s
    rw [hexec, gated_notReady hb hphase]
  · rw [exec_construct, gated_notReady hb hphase]
  · rcases step_phaseMoves h with hsame | ⟨-, h9⟩ | hfailed
    · rwa [hsame]
    · exact .inr (.inl h9)
    · exact .inr (.inr hfailed)

/-- In FAILED a request or `drawString` writes the response port at most (R170, R236). -/
theorem exec_of_failed {i : Instr} {s t : State} (hphase : s.phase = .failed)
    (hi : i.format = .req ∨ ∃ x y text fg bg, i = .drawString x y text fg bg)
    (h : exec i s = .next t) : ∃ r, t = { s with resp := r } := by
  by_cases hready : NeedsReady i
  · obtain ⟨run, hexec⟩ := exec_needsReady hready s
    exact gated_elsewhere (by simp [hphase]) (hexec ▸ h)
  have hexempt : (∃ c, i = .toColor565 c) ∨ ∃ o, i = .construct o := by
    by_contra hno
    simp only [not_or, not_exists] at hno
    exact hready (hi.imp_left fun hreq => ⟨hreq, hno⟩)
  rcases hexempt with ⟨c, rfl⟩ | ⟨o, rfl⟩
  · cases h
    exact ⟨_, rfl⟩
  · rw [exec_construct] at h
    exact gated_elsewhere (by simp [hphase]) h

/-- Settles O57: FAILED is left by no move of the phase, and no gate opens in it. -/
theorem failedIsTerminal : Obligations.FailedIsTerminal := by
  refine ⟨fun s t h hs => ?_, fun i s t hs h hi => ?_⟩
  · rcases step_phaseMoves h with hsame | ⟨h0, -⟩ | hfailed
    · exact hsame.trans hs
    · simp [hs] at h0
    · exact hfailed
  · obtain ⟨r, rfl⟩ := exec_of_failed hs hi h
    exact ⟨rfl, rfl, rfl⟩

/-! ## The last response is not read -/

/-- A run whose states hold the response `r`. -/
def Run.withResp (r : Option Response) : Run → Run
  | .done t => .done { t with resp := r }
  | .busFailure t => .busFailure { t with resp := r }
  | .refused e => .refused e

theorem emit_withResp (e : Event) (s : State) (r : Option Response) :
    emit e { s with resp := r } = { emit e s with resp := r } := by
  rcases e with ⟨line, _⟩ | _ | _ | _ | _
  · cases line <;> rfl
  all_goals rfl

theorem runAct_withResp (a : Act) (s : State) (r : Option Response) :
    runAct a { s with resp := r } = (runAct a s).withResp r := by
  cases a with
  | pin line level => exact congrArg Run.done (emit_withResp _ s r)
  | write b =>
    have hsent := congrArg Run.done (emit_withResp (batchEvent b) { s with xfer := s.xfer + 1 } r)
    rw [runAct, runAct]
    rcases busWriteRun_cases b s with ⟨hw, hok, e⟩ | ⟨hw, hlost, e⟩ | ⟨hw, e⟩ <;> rw [e]
    · exact (if_pos hw).trans ((if_pos hok).trans hsent)
    · exact (if_pos hw).trans (if_neg (hlost ▸ Bool.false_ne_true))
    · exact busWriteRun_refused hw
  | width | delay | screen | phase => rfl

theorem runActs_withResp (l : List Act) (s : State) (r : Option Response) :
    runActs l { s with resp := r } = (runActs l s).withResp r := by
  induction l generalizing s with
  | nil => rfl
  | cons a l ih =>
    rw [runActs_cons, runActs_cons, runAct_withResp]
    cases runAct a s with
    | done t => exact ih t
    | busFailure t => rfl
    | refused e => rfl

theorem takeBusFailure_withResp (s : State) (r : Option Response) :
    takeBusFailure { s with resp := r } = takeBusFailure s := by
  unfold takeBusFailure restoreWidth
  split <;> rfl

/-- An operation that answers overwrites the response it started with. -/
theorem runAndAnswer_withResp (acts : List Act) (st : Status) (s : State) (r : Option Response) :
    runAndAnswer acts st { s with resp := r } = runAndAnswer acts st s := by
  rw [runAndAnswer, runActs_withResp, runAndAnswer]
  cases runActs acts s with
  | done t => rfl
  | busFailure t => exact congrArg Host.Outcome.next (takeBusFailure_withResp t r)
  | refused e => rfl

/-- With the lock free CONSTRUCT answers in every phase, so a refusal before it leaves no mark (R226). -/
theorem construct_withResp {s : State} (hb : s.busy = false) (o : Orientation) (r : Option Response) :
    exec (.construct o) { s with resp := r } = exec (.construct o) s := by
  have hrun : constructRun o { s with resp := r } = constructRun o s := by
    unfold constructRun
    rw [← runAndAnswer_withResp (initActs s.cfg o) .ok (s.constructing o) r]
    rfl
  rw [exec_construct, exec_construct, hrun]
  by_cases hphase : s.phase = .p0
  · simp [gated, hb, hphase]
  · exact (gated_notReady (s := { s with resp := r }) hb hphase).trans (gated_notReady hb hphase).symm

/-! ## E_CONFIG -/

/-- A bus identifier is invalid when it is missing or listed (R226; log 3). -/
theorem busValid_eq_false {cfg : Cfg} {id : Option Nat}
    (h : ∀ bus, id = some bus → bus ∈ cfg.invalidBuses) : busValid cfg id = false := by
  cases id with
  | none => rfl
  | some bus => simp [busValid, h bus rfl]

theorem construct_invalidBus {s : State} (hb : s.busy = false) (hphase : s.phase = .p0)
    (hbus : busValid s.cfg s.ctorPort.bus = false) (o : Orientation) :
    exec (.construct o) s = .next { s with resp := some ⟨.eConfig, 0⟩ } := by
  rw [exec_construct, gated, if_neg (by simp [hb]), if_pos hphase, constructRun, if_neg (by simp [hbus]),
    answer_of_idle hb]

/-- From `s` to `t` no E_CONFIG was answered. -/
def State.NoConfigError (s t : State) : Prop := t.resp = s.resp ∨ t.resp ≠ some ⟨.eConfig, 0⟩

theorem procedure_noConfigError {i : Instr} {s t : State} (h : exec i s = .next t)
    (hexec : exec i s = procedure (program s i) s) : s.NoConfigError t := by
  rcases procedure_next _ s t (hexec.symm.trans h) with hdone | ⟨u, -, rfl⟩
  · exact .inl (congrArg State.resp (runActs_given (.inl hdone)) :)
  · exact .inr (by simp)

theorem runAndAnswer_noConfigError {acts : List Act} {st : Status} {s t : State} (hst : st ≠ .eConfig)
    (h : runAndAnswer acts st s = .next t) : s.NoConfigError t := by
  rcases runAndAnswer_next acts st s t h with ⟨u, -, rfl⟩ | ⟨u, -, rfl⟩
  · exact .inr (by simpa [answer] using hst)
  · exact .inr (by simp)

theorem gated_noConfigError {p : Phase} {run : Host.Outcome State Fault Refusal} {s t : State}
    (hrun : run = .next t → s.NoConfigError t) (h : gated p run s = .next t) : s.NoConfigError t := by
  rcases gated_next h with rfl | rfl | ⟨-, hnext⟩
  · exact .inl rfl
  · exact .inr (by simp)
  · exact hrun hnext

theorem operation_noConfigError {i : Instr} {plan : State → List Act × Status} {s t : State}
    (h : exec i s = .next t) (hexec : ∀ s, exec i s = operation plan s)
    (hplan : (plan s).2 ≠ .eConfig) : s.NoConfigError t :=
  gated_noConfigError (runAndAnswer_noConfigError (s := { s with busy := true }) hplan)
    ((hexec s).symm.trans h)

theorem fillRectPlan_status_ne_eConfig (left right top bottom : Int) (c : Color565) (s : State) :
    (fillRectPlan left right top bottom c s).2 ≠ .eConfig := by
  simp only [fillRectPlan]
  split <;> simp

theorem flushPlan_status_ne_eConfig (x y width height : Int) (s : State) :
    (flushPlan x y width height s).2 ≠ .eConfig := by
  simp only [flushPlan]
  split_ifs <;> simp

theorem drawCharPlan_status_ne_eConfig (cfg : Cfg) (x y : Int) (fg bg : Color565) (g : Glyph) :
    (drawCharPlan cfg x y fg bg g).2 ≠ .eConfig := by
  unfold drawCharPlan
  split <;> simp

theorem stringLayout_status_ne_eConfig (width : Int) (font : Font) (x : Int) (text : List Char)
    (curX curY : Int) :
    (stringLayout width font x text curX curY).2 ≠ .eConfig := by
  induction text generalizing curX curY with
  | nil => simp [stringLayout]
  | cons ch rest ih =>
    unfold stringLayout
    split <;> split_ifs <;> simp [ih]

/-- No instruction but CONSTRUCT answers E_CONFIG (R226). -/
theorem exec_noConfigError {i : Instr} {s t : State} (hc : ∀ o, i ≠ .construct o)
    (h : exec i s = .next t) : s.NoConfigError t := by
  cases i
  case construct o => exact absurd rfl (hc o)
  case setBacklight on =>
    refine gated_noConfigError (fun hrun => ?_) h
    cases hrun
    exact .inr (by simp)
  case toColor565 c =>
    cases h
    exact .inr (by simp)
  case drawChar x y fg bg g =>
    exact runAndAnswer_noConfigError (drawCharPlan_status_ne_eConfig s.cfg x y fg bg g) h
  case drawString x y text fg bg =>
    refine operation_noConfigError h (fun _ => rfl) ?_
    rw [drawStringFrom_eq_stringLayout]
    exact stringLayout_status_ne_eConfig _ _ _ _ _ _
  case fillRect | clearScreen | fillScreen =>
    exact operation_noConfigError h (fun _ => rfl) (fillRectPlan_status_ne_eConfig _ _ _ _ _ s)
  case flush => exact operation_noConfigError h (fun _ => rfl) (flushPlan_status_ne_eConfig _ _ _ _ s)
  case setOrientation | drawPixel565 | drawPixel888 | drawCircle565 | drawCircle888 =>
    exact operation_noConfigError h (fun _ => rfl) (by simp)
  all_goals exact procedure_noConfigError h rfl

/-- Settles O32: the invalid identifier is refused before anything is written, CONSTRUCT does not read the
last response, and every other instruction answers another status or none. -/
theorem invalidBusIsRefused : Obligations.InvalidBusIsRefused := by
  refine ⟨fun s o hb hphase hbus => ⟨construct_invalidBus hb hphase (busValid_eq_false hbus) o,
    fun k q => ?_⟩, fun i s t h hconfig hnew => ?_⟩
  · exact construct_withResp (s := { s with ctorPort := k }) hb q _
  · by_contra hno
    rcases exec_noConfigError (fun o e => hno ⟨o, e⟩) h with hsame | hother
    · exact hnew hsame
    · exact hother hconfig

end Sys2Proof.Machine
end

section
/-! The hazards of spec 70: the mode-select line is driven before each transfer it classifies (41 R131,
70 R261), read off the events an instruction can emit; and the two panel resets (70 R257). -/

namespace Sys2Proof.Machine

/-! ## The mode-line discipline of lists of events -/

/-- A mode-line event seen before the list can only help. -/
theorem modeLineFirst_mono {es : List Event} (seen : Bool) (h : modeLineFirst false es = true) :
    modeLineFirst seen es = true := by
  induction es with
  | nil => rfl
  | cons e es ih =>
    rcases e with ⟨line, _⟩ | _ | _ | _ | _
    case pin =>
      cases line
      · exact h
      all_goals exact ih h
    case write8 | write16 => simp [modeLineFirst] at h
    case busWidth | delay => exact ih h

theorem modeLineFirst_append {seen : Bool} {es es' : List Event} (h : modeLineFirst seen es = true)
    (h' : modeLineFirst false es' = true) : modeLineFirst seen (es ++ es') = true := by
  induction es generalizing seen with
  | nil => exact modeLineFirst_mono seen h'
  | cons e es ih =>
    rcases e with ⟨line, _⟩ | _ | _ | _ | _
    case pin => cases line <;> exact ih h
    case write8 | write16 =>
      simp only [modeLineFirst, Bool.and_eq_true] at h
      obtain ⟨rfl, hrest⟩ := h
      exact ih hrest
    case busWidth | delay => exact ih h

/-- What a run has emitted when it fails is a beginning of what it would have emitted, and keeps the
discipline too. -/
theorem modeLineFirst_of_append {seen : Bool} {es es' : List Event}
    (h : modeLineFirst seen (es ++ es') = true) : modeLineFirst seen es = true := by
  induction es generalizing seen with
  | nil => rfl
  | cons e es ih =>
    rcases e with ⟨line, _⟩ | _ | _ | _ | _
    case pin => cases line <;> exact ih h
    case write8 | write16 =>
      simp only [List.cons_append, modeLineFirst, Bool.and_eq_true] at h
      obtain ⟨rfl, hrest⟩ := h
      exact ih hrest
    case busWidth | delay => exact ih h

/-! ## The mode-line discipline of lists of actions -/

/-- Every bus write among the actions has its mode-line event before it, no bus write between. -/
def Classified (l : List Act) : Prop := modeLineFirst false (actEvents l) = true

theorem actEvents_append (l1 l2 : List Act) : actEvents (l1 ++ l2) = actEvents l1 ++ actEvents l2 :=
  List.flatMap_append

theorem Classified.append {l1 l2 : List Act} (h1 : Classified l1) (h2 : Classified l2) :
    Classified (l1 ++ l2) := by
  rw [Classified, actEvents_append]
  exact modeLineFirst_append h1 h2

theorem Classified.flatMap {α : Type} {f : α → List Act} (l : List α) (h : ∀ a, Classified (f a)) :
    Classified (l.flatMap f) := by
  induction l with
  | nil => rfl
  | cons a l ih => exact (h a).append ih

/-- The transport drives the line and then issues its one batch (R125 to R127). -/
theorem classified_transfer (level : Level) (b : Batch) : Classified [.pin .dc level, .write b] := by
  cases b <;> rfl

theorem classified_frameActs (cfg : Cfg) (op : Byte) (l : List Byte) : Classified (frameActs cfg op l) := by
  unfold frameActs
  refine (classified_transfer _ _).append ?_
  split
  · rfl
  · exact classified_transfer _ _

theorem classified_bracketActs (cfg : Cfg) (batches : List (List Color565)) :
    Classified (bracketActs cfg batches) := by
  have hwidth (w : BusWidth) : Classified [.width w] := rfl
  exact ((hwidth .w16).append (.flatMap batches fun _ => classified_transfer _ _)).append (hwidth .w8)

theorem Block.classified {cfg : Cfg} {b : List Act} (hb : Block cfg b) : Classified b := by
  cases hb with
  | command c _ => exact classified_transfer _ _
  | frame c l => exact (classified_transfer _ _).append (classified_transfer _ _)
  | bracket batches => exact classified_bracketActs cfg batches

theorem Blocks.classified {cfg : Cfg} {l : List Act} (hl : Blocks cfg l) : Classified l := by
  induction hl with
  | nil => rfl
  | cons hb _ ih => exact hb.classified.append ih

theorem classified_orientActs (cfg : Cfg) (o : Orientation) : Classified (orientActs cfg o) := by
  obtain ⟨l, hl, hblocks⟩ := orientActs_blocks cfg o
  rw [hl]
  exact hblocks.classified

theorem constructEvents_modeLineFirst (cfg : Cfg) (o : Orientation) :
    modeLineFirst false (constructEvents cfg o) = true := by
  delta constructEvents
  simp [windowEvents, cmdEvents, dataEvents, modeLineFirst]

theorem classified_initActs (cfg : Cfg) (o : Orientation) : Classified (initActs cfg o) := by
  rw [Classified, actEvents_initActs]
  exact constructEvents_modeLineFirst cfg o

theorem classified_program {i : Instr} (s : State) (hi : ∀ b, i ≠ .busWrite b) :
    Classified (program s i) := by
  cases i
  case busWrite b => exact absurd rfl (hi b)
  case construct o => exact classified_initActs s.cfg o
  case setOrientation o | orient o => exact classified_orientActs s.cfg o
  case swreset | slpout | gamset | dispoff | dispon | caset | paset | ramwr | madctl | pixset | frmctr
    | dfunctr | etmod => exact classified_frameActs _ _ _
  case sendCommand | sendData8 | sendData16 => exact classified_transfer _ _
  case setBusWidth => rfl
  case setWindow => exact (setWindowActs_blocks _ _ _ _ _).classified
  case drawChar | drawString => exact (program_blocks s (.inr rfl) (by simp) (by simp)).classified
  all_goals exact (program_blocks s (.inl rfl) (by simp) (by simp)).classified

/-! ## What a run emits -/

theorem runAct_done_trace {a : Act} {s t : State} (h : runAct a s = .done t) :
    t.trace = s.trace ++ a.events := by
  cases a with
  | write b =>
    rw [runAct] at h
    rcases busWriteRun_cases b s with ⟨_, _, e⟩ | ⟨_, _, e⟩ | ⟨_, e⟩ <;> rw [e] at h <;> cases h
    exact emit_trace _ _
  | pin | delay =>
    cases h
    exact emit_trace _ _
  | width w =>
    cases h
    exact setWidth_trace _ _
  | screen | phase =>
    cases h
    exact (List.append_nil _).symm

theorem runActs_done_trace {l : List Act} {s t : State} (h : runActs l s = .done t) :
    t.trace = s.trace ++ actEvents l := by
  induction l generalizing s with
  | nil =>
    cases h
    exact (List.append_nil _).symm
  | cons a l ih =>
    rw [runActs_cons] at h
    cases hr : runAct a s <;> simp only [hr, reduceCtorEq] at h
    rw [ih h, runAct_done_trace hr, List.append_assoc]
    rfl

/-- From `s` to `t` the trace grew by events that keep the mode-line discipline. -/
def State.EmitsClassified (s t : State) : Prop :=
  ∃ es, t.trace = s.trace ++ es ∧ modeLineFirst false es = true

theorem emitsClassified_of_trace_eq {s t : State} (h : t.trace = s.trace) : s.EmitsClassified t :=
  ⟨[], by simpa using h, rfl⟩

theorem Classified.emits_of_done {l : List Act} (hl : Classified l) {s t : State}
    (h : runActs l s = .done t) : s.EmitsClassified t :=
  ⟨actEvents l, runActs_done_trace h, hl⟩

/-- A bus failure ends the events before some batch, and only the width restoration follows (R130,
R231). -/
theorem Classified.emits_of_busFailure {l : List Act} (hl : Classified l) {s u : State}
    (h : runActs l s = .busFailure u) : s.EmitsClassified (takeBusFailure u) := by
  obtain ⟨l1, b, l2, v, rfl, hdone, -, -, rfl⟩ := runActs_busFailure_split h
  have htrace : v.trace = s.trace ++ actEvents l1 := runActs_done_trace hdone
  have hbefore : modeLineFirst false (actEvents l1) = true :=
    modeLineFirst_of_append (es' := actEvents (.write b :: l2)) (actEvents_append l1 _ ▸ hl)
  rw [State.EmitsClassified, takeBusFailure_trace]
  split
  · exact ⟨actEvents l1 ++ [.busWidth .w8], by rw [htrace, List.append_assoc],
      modeLineFirst_append hbefore rfl⟩
  · exact ⟨actEvents l1, htrace, hbefore⟩

theorem exec_emitsClassified {i : Instr} {s t : State} (hi : ∀ b, i ≠ .busWrite b)
    (h : exec i s = .next t) : s.EmitsClassified t := by
  have hprogram := classified_program s hi
  cases exec_result h with
  | quiet r => exact emitsClassified_of_trace_eq rfl
  | backlight on => exact ⟨[.pin .bl (backlightLevel s.cfg on)], emit_trace _ _, rfl⟩
  | finished _ _ hdone => exact hprogram.emits_of_done hdone
  | answered s0 u st he hdone =>
    obtain ⟨htrace0, -⟩ := he.wire
    simpa [State.EmitsClassified, htrace0] using hprogram.emits_of_done hdone
  | failed s0 u he hfail =>
    obtain ⟨htrace0, -⟩ := he.wire
    simpa [State.EmitsClassified, htrace0] using hprogram.emits_of_busFailure hfail

/-! ## A batch before any mode-line event -/

/-- While the mode is unknown a batch, empty or not, undefines the panel (R131). -/
theorem receive_batch_undriven (cfg : Cfg) (w h n : Nat) (b : Batch) (p : Panel) :
    p.receive cfg .undriven w h n (batchEvent b) = p.undefine := by
  cases b <;> rfl

/-- Settles O56: every program but the bare batch keeps the discipline, up to its end or to a bus failure;
a bare batch on an undriven line is sent in an unknown mode or fails, and either undefines the panel. -/
theorem modeLineBeforeTransfer : Obligations.ModeLineBeforeTransfer := by
  refine ⟨fun i s t hi h => exec_emitsClassified hi h, fun b s hw hdc => ?_⟩
  obtain ⟨hsent, hlost⟩ := busWriteCompletes s b hw
  cases hok : s.busOk s.xfer with
  | true =>
    obtain ⟨t, hexec, -, hpanel⟩ := hsent hok
    exact ⟨t, hexec, by rw [hpanel, hdc, receive_batch_undriven, undefine_undef]⟩
  | false => exact ⟨_, hlost hok, rfl⟩

/-! ## The panel resets -/

/-- The panel a reset leaves is the one of the reset table, whatever the free values are (R257); its sleep
and display bits are general knowledge of the panel (log 25). -/
theorem reset_isReset (n : Nat) : (Panel.reset n).isReset := by
  simp [Panel.isReset, Panel.reset, Reg.unspecified, Memory.read]

theorem commandByte_swreset {cfg : Cfg} (hwf : cfg.opcodes.Nodup) (n : Nat) (p : Panel) :
    p.commandByte cfg n cfg.opcSwreset = Panel.reset n := by
  have hlisted : cfg.command? cfg.opcSwreset = some .swreset := command?_opcode cfg hwf .swreset
  simp [Panel.commandByte, hlisted]

/-- Settles O18: the software-reset byte and the reset line driven low are the same panel reset. -/
theorem panelResets : Obligations.PanelResets := by
  refine ⟨fun s hwf hw hok => ?_, fun p cfg dc w h n => reset_isReset n⟩
  obtain ⟨t, hexec, hsent, hresp, hpanel⟩ :=
    sendFrame_command hw hok.head s.cfg.opcSwreset (commandByte_swreset hwf.nodup _ s.panel)
  exact ⟨t, hexec, hsent, hresp, hpanel ▸ reset_isReset _⟩

end Sys2Proof.Machine
end
